-- ==== Sys2Proof/Word.lean ====
section
/-! DEFINITION. The two word types of the machine (R10: data bytes are 8 bits; pairs, PC, SP,
IX, IY and memory addresses are 16 bits). The helpers over them are in Machine/Bits.lean. -/

namespace Sys2Proof

/-- A data byte, an 8-bit register, an 8-bit port number (R10). -/
abbrev Byte := BitVec 8

/-- A register pair, the PC, SP, IX, IY, a memory address or a port address (R10). -/
abbrev Word := BitVec 16

end Sys2Proof
end

