-- ==== Sys2Proof/Machine/Bits.lean ====
section
/-! DEFINITION. The bit-field, sign-extension, byte-order and parity helpers of R11. -/

namespace Sys2Proof.Machine

/-- `lo(w)` (R11). -/
def lo (w : Word) : Byte := w.extractLsb' 0 8

/-- `hi(w)` (R11). -/
def hi (w : Word) : Byte := w.extractLsb' 8 8

/-- `{h, l}`: `h` in the high part (R11, R12). -/
def pair (h l : Byte) : Word := h ++ l

/-- `sext_16(d)` (R11, R151). -/
def sext16 (d : Byte) : Word := d.signExtend 16

/-- `zext_16(v)` (R11). -/
def zext16 (v : Byte) : Word := v.setWidth 16

/-- `parity(v)`: true when `v` has an even number of 1 bits (R11). -/
def parity (v : Byte) : Bool :=
  !(v.getLsbD 0 ^^ v.getLsbD 1 ^^ v.getLsbD 2 ^^ v.getLsbD 3 ^^
    v.getLsbD 4 ^^ v.getLsbD 5 ^^ v.getLsbD 6 ^^ v.getLsbD 7)

/-- The byte with only bit `k` set: `1 << k`. -/
def bitMask (k : Nat) : Byte := (1 : Byte) <<< k

/-- The value of the byte string `bs`, least significant byte first (R664). -/
def leNat : List Byte → Nat
  | [] => 0
  | b :: bs => b.toNat + 256 * leNat bs

end Sys2Proof.Machine
end

