-- ==== Sys2Proof/Config.lean ====
section
/-! DEFINITION. The parameters of R8: the policies that have more than one admitted value (a
structure, held in State because they are fixed for a run and no step writes them), the timing
and size constants, and the free values `draw` (R13) and `ramInit` (R714). ROM_IMAGE and RAM_INIT, the two OPEN
parameters, are the memory contents and `romSize` of State. -/

namespace Sys2Proof

/-- UNDOC_FLAGS (R8, R14): whether a flag bit tagged `[gk-undoc]` is a draw or the formula. -/
inductive UndocFlags where
  | draw
  | formula
deriving DecidableEq, Repr

/-- R_POLICY (R8, R38): what bits 6..0 of the refresh register read as. -/
inductive RPolicy where
  | draw
  | count
deriving DecidableEq, Repr

/-- HALT_RESUME (R8, R520): the test that moves PC past a HALT at interrupt entry. -/
inductive HaltResume where
  | flag
  | opcodeAtPc
deriving DecidableEq, Repr

/-- UNKNOWN_PORT_POLICY (R8, R110). -/
inductive PortPolicy where
  | fatal
  | float
deriving DecidableEq, Repr

/-- The policy parameters of R8 that admit more than one value. -/
structure Config where
  /-- UNDOC_EXTENDED: the `extended` opcode group is admitted (R141). -/
  undocExtended   : Bool
  /-- UNDOC_FLAGS (R14). -/
  undocFlags      : UndocFlags
  /-- R_POLICY (R38). -/
  rPolicy         : RPolicy
  /-- IRQ_CLEARS_IFF2 (R522). -/
  irqClearsIff2   : Bool
  /-- INT_ACK_CYCLES.nmi (R520). -/
  nmiAckCycles    : Nat
  /-- INT_ACK_CYCLES.irq (R522). -/
  irqAckCycles    : Nat
  /-- HALT_RESUME (R520, R522). -/
  haltResume      : HaltResume
  /-- UNKNOWN_PORT_POLICY (R110). -/
  unknownPorts    : PortPolicy
deriving DecidableEq, Repr

namespace Config

/-- The values R8 gives for this hardware. -/
def hardware : Config where
  undocExtended := false
  undocFlags    := .draw
  rPolicy       := .draw
  irqClearsIff2 := false
  nmiAckCycles  := 0
  irqAckCycles  := 0
  haltResume    := .flag
  unknownPorts  := .fatal

/-- CPU_HZ: T-states per second of the virtual clock (R2, R8). -/
def cpuHz : Nat := 2027520
/-- TIMER_PERIOD = CPU_HZ / 30 (R8, R514). -/
def timerPeriod : Nat := 67584
/-- TYPE1_DELAY (R8, R593). -/
def type1Delay : Nat := 2000
/-- NOTFOUND_DELAY (R8, R598). -/
def notFoundDelay : Nat := 512
/-- DRQ_DELAY (R8, R598). -/
def drqDelay : Nat := 64
/-- DONE_DELAY (R8, R606). -/
def doneDelay : Nat := 64
/-- LOSTDATA_DELAY = CPU_HZ / 2 (R8, R599). -/
def lostDataDelay : Nat := 1013760
/-- MOTOR_TIMEOUT = 2 × CPU_HZ (R8, R588). -/
def motorTimeout : Nat := 4055040
/-- CLOCKS_PER_REV = CPU_HZ × 60 / 300 (R8, R630). -/
def clocksPerRev : Nat := 405504
/-- INDEX_WIDTH = CLOCKS_PER_REV / 100 (R8, R630). -/
def indexWidth : Nat := 4055
/-- MAXTRACKS (R8, R594). -/
def maxTracks : Nat := 255
/-- JV1_LENGTH (R8, R625). -/
def jv1Length : Nat := 89600
/-- JV3_LENGTHS (R8, R625). -/
def jv3Lengths : List Nat := [193024, 377344]
/-- JV3_SECSPERBLK (R8, R623). -/
def jv3SecsPerBlk : Nat := 2901
/-- JV3_SECSTART = 34 × 256 (R8, R623). -/
def jv3SecStart : Nat := 8704
/-- CASSETTE_THRESHOLD (R8, R661). -/
def cassetteThreshold : Int := 5000
/-- KICKOFF_DELAY = CPU_HZ (R8, R667). -/
def kickoffDelay : Nat := 2027520
/-- KEY_DELAY (R8, R693). -/
def keyDelay : Nat := 40000

/-- `draw()` of R13: the k-th free input byte. It has no body, so nothing can be proved of its
value: a statement about a drawn bit holds for every value (log entry 3). -/
opaque draw : Nat → Byte

/-- RAM_INIT (R8) at an address, where R714 makes it the machine's first instruction: a machine
without a ROM. It has no body, so nothing can be proved of that instruction (log entry 5). -/
opaque ramInit : Nat → Byte

end Config

end Sys2Proof
end

