-- ==== Sys2Proof/Machine/State.lean ====
section
/-! DEFINITION. Every piece of state the spec gives the machine (10_state.md, 60_exceptions.md
R542 to R543, 61 to 64), as plain data; its value at machine creation (R710, R711); the reasons a
step can stop. The list with rules and reset values is INVENTORY.md, '## State'. -/

namespace Sys2Proof.Machine

/-! ## CPU registers and control state (R30 to R42) -/

/-- Interrupt mode IM, a value in {0, 1, 2} (R40). -/
inductive IntMode where
  | im0
  | im1
  | im2
deriving DecidableEq, Repr

/-- The CPU register file and control flip-flops. The primed fields are the alternate set (R31). -/
structure Regs where
  a  : Byte
  f  : Byte
  b  : Byte
  c  : Byte
  d  : Byte
  e  : Byte
  h  : Byte
  l  : Byte
  a' : Byte
  f' : Byte
  b' : Byte
  c' : Byte
  d' : Byte
  e' : Byte
  h' : Byte
  l' : Byte
  ix : Word
  iy : Word
  sp : Word
  pc : Word
  /-- interrupt vector register I (R37) -/
  i  : Byte
  /-- refresh register R (R38) -/
  r  : Byte
  iff1 : Bool
  iff2 : Bool
  im   : IntMode
  /-- hidden bit of HALT (R41) -/
  halted   : Bool
  /-- hidden bit of EI (R42) -/
  eiShadow : Bool
deriving DecidableEq, Repr

/-! ## Interrupt latches and masks (R44 to R46) -/

/-- Pending and enabled interrupt sources. -/
structure Latches where
  irqMask  : Byte
  irqLatch : Byte
  nmiMask  : Byte
  nmiLatch : Byte
  /-- NMI re-entry suppressor (R46) -/
  nmiSeen  : Bool
deriving DecidableEq, Repr

/-! ## Memory (R48) -/

/-- The 65,536 byte cells as (address, byte) pairs in one canonical form: addresses strictly
rising and below 65,536, and no entry equal to what an unlisted address reads as
(Machine/Memory.lean: `Memory.wf`, `unlistedByte`). -/
abbrev Memory := List Host.Cell

/-! ## Floppy disk controller and drives (R54, R580, R620) -/

/-- `fdc.stepDir`: +1 or −1 (R580). -/
inductive StepDir where
  | inward
  | outward
deriving DecidableEq, Repr

/-- The controller's registers and latches (R54, R580). -/
structure Fdc where
  status  : Byte
  track   : Byte
  sector  : Byte
  data    : Byte
  /-- the last command byte; it selects the status view (R581) -/
  command : Byte
  byteCount  : Nat
  dataOffset : Nat
  side    : Bool
  drive   : Fin 4
  /-- true is double density (R54) -/
  density : Bool
  motorOn : Bool
  /-- clock value at which the motor times out (R588) -/
  motorTimeout  : Nat
  /-- written by no admitted command (R603) -/
  lastAddrIndex : Int
  stepDir : StepDir
deriving DecidableEq, Repr

/-- `drv[d].kind` (R54). -/
inductive DriveKind where
  | none
  | jv1
  | jv3
deriving DecidableEq, Repr

/-- A JV3 sector descriptor (R620, R621). -/
structure SectorId where
  track  : Byte
  sector : Byte
  flags  : Byte
deriving DecidableEq, Repr

/-- The JV3 tables of R620. `none` in `trackStart` and `freeHead` is the spec's −1. -/
structure Jv3Tables where
  /-- descriptors 0..N−1 and the sentinel at N -/
  ids      : List SectorId
  /-- byte offsets in the image, 0..N -/
  offset   : List Nat
  /-- a permutation of 0..N -/
  sortedId : List Nat
  /-- per track 0..MAXTRACKS−1: the entry of side 0 and of side 1 -/
  trackStart : List (Option Nat × Option Nat)
  /-- per size code 0..3 -/
  freeHead : List (Option Nat)
deriving DecidableEq, Repr

/-- One drive slot: what is mounted and where its head is (R54, R620). -/
structure Drive where
  kind  : DriveKind
  /-- physical head track -/
  phys  : Nat
  image : List Byte
  jv3   : Jv3Tables
deriving DecidableEq, Repr

/-! ## Cassette (R55, R660) -/

/-- `cas.state` (R660). -/
inductive CasState where
  | close
  | read
  | fail
deriving DecidableEq, Repr

/-- The tri-state a sample is classified as (R661). -/
inductive Level where
  | neutral
  | positive
  | negative
deriving DecidableEq, Repr

/-- The parts of a parsed WAV file that replay uses (R664): samples per second and samples. -/
structure Tape where
  rate    : Nat
  samples : List Word
deriving DecidableEq, Repr

/-- Cassette state (R660). `tape` is the `w` that R663 parses at an open and R665 replays: a later
mount changes `source` and not the tape being replayed. -/
structure Cassette where
  motor : Bool
  state : CasState
  last  : Level
  lastNonNeutral : Level
  flipflop : Bool
  motorOnClock : Nat
  samplesRead  : Nat
  source : Option (List Byte)
  tape   : Tape
deriving DecidableEq, Repr

/-! ## Keyboard (R56, R690) -/

/-- `shiftForce` (R690). -/
inductive ShiftForce where
  | neutral
  | forceDown
  | forceUp
deriving DecidableEq, Repr

/-- A key activity (R690). -/
structure KeyActivity where
  row     : Fin 8
  bit     : Fin 8
  force   : ShiftForce
  pressed : Bool
deriving DecidableEq, Repr

/-- Keyboard state (R690). -/
structure Keyboard where
  rows       : Vector Byte 8
  shiftForce : ShiftForce
  queue      : List KeyActivity
  nextClock  : Nat
deriving DecidableEq, Repr

/-! ## Event queue (R52, R560, R566) -/

/-- The named device actions of R566. -/
inductive EventAction where
  | diskDone (bits : Byte)
  | lostData
  | firstDrq
  | kickOff
deriving DecidableEq, Repr

/-- A queue entry (R560). -/
structure Event where
  kind      : Byte
  fireClock : Nat
  seq       : Nat
  action    : EventAction
deriving DecidableEq, Repr

/-! ## Observation outputs and host actions (R53, R541, R542) -/

/-- An observation event (R541). Drive −1 of `motorLight` is the cassette. -/
inductive Output where
  | screenWrite (a : Word) (v : Byte)
  | motorLight (drive : Int) (on : Bool)
  | expanded (on : Bool)
  | breakpoint (pc : Word)
deriving DecidableEq, Repr

/-- A host key (R695): a character by its ASCII code, a named key, or the triple
`(row, bit, force)` taken directly, as R695 allows for a cell with a legend. -/
inductive HostKey where
  | ascii (code : Byte)
  | enter
  | clear
  | break
  | up
  | down
  | left
  | right
  | space
  | lshift
  | rshift
  | cell (row bit : Fin 8) (force : ShiftForce)
deriving DecidableEq, Repr

/-- A host action (R542). Only drives 0 and 1 can be mounted. -/
inductive HostAction where
  | mountDisk (d : Fin 2) (image : List Byte)
  | unmountDisk (d : Fin 2)
  | mountCassette (source : Option (List Byte))
  | press (k : HostKey)
  | release (k : HostKey)
  | reset
  | boot
  | addBreakpoint (pc : Word)
  | shutdown
  | tron
deriving DecidableEq, Repr

/-- The fault reasons of R500, each raised where its line says. Every one is the spec's own stop
(the source's "Fatal" class), so stopping is faithful; a model that stops where the original went
on errs on the safe side. -/
inductive FatalReason where
  /-- Decode: the bytes match no admitted row (R141, R142). Safe. -/
  | unknownOpcode (bytes : List Byte)
  /-- The port router: an IN of a port it does not list (R110). Safe. -/
  | unknownPortIn (p : Byte)
  /-- The port router: an OUT to a port it does not list (R110). Safe. -/
  | unknownPortOut (p : Byte)
  /-- A command write of Type II write or Type III to port F0 (R602, R603). Safe. -/
  | fdcUnsupportedCommand (c : Byte)
  /-- A mount of an image of a length that is neither JV1 nor JV3 (R625). Safe. -/
  | badDiskImage (length : Nat)
  /-- The cassette open: a parsed file that is not PCM, mono, 16-bit (R663). Safe. -/
  | badWav
  /-- The interrupt check: a maskable interrupt accepted while IM ≠ 1 (R521). Safe. -/
  | interruptMode (m : IntMode)
deriving DecidableEq, Repr

/-! ## The whole state -/

/-- The machine: CPU, latches, memory, devices, clock and queue, outputs, the host-level state of
R543, the host's pending actions, the parameters of R8, and the model's own draw counter. -/
structure State where
  cpu : Regs
  lat : Latches
  /-- the byte last written to EC–EF (R47) -/
  modeImage : Byte
  /-- ROM_SIZE: the ROM region is [0, romSize) (R82) -/
  romSize : Nat
  mem : Memory
  /-- the addresses whose "initialized" flag is set, strictly rising (R48) -/
  inited : List Nat
  clock : Nat
  /-- clock value of the next 30 Hz tick (R50) -/
  nextTimer : Nat
  /-- none, or the reason the machine stopped (R51) -/
  fault : Option FatalReason
  events : List Event
  seqNo  : Nat
  outputs : List Output
  fdc : Fdc
  drv : Vector Drive 4
  cas : Cassette
  kbd : Keyboard
  running : Bool
  breakpoints : List Word
  skipBreak : Bool
  /-- set by the host action `shutdown` (R542) -/
  shutDown : Bool
  /-- host actions still to come: one batch per step boundary, the head before the next step
  (R542; log entry 8) -/
  inbox : List (List HostAction)
  cfg : Config
  /-- the model's own counter: how many free bytes `Config.draw` has given (log entry 3) -/
  drawNo : Nat
deriving DecidableEq, Repr

/-- Why a step answers a fault. -/
inductive Fault where
  /-- Raised by `raise Fatal(reason)` (R13, R500): `stopped` is the state at the point of the
  fault, its `fault` field holding the reason; a step of a machine that already has a fault raises
  it again unchanged (R51). Safe: nothing follows a stop. -/
  | fatal (reason : FatalReason) (stopped : State)
deriving DecidableEq, Repr

/-- Why a step is refused. -/
inductive Refusal where
  /-- Raised by an arm of exec that has no meaning yet; safe. No arm of this model raises it. -/
  | notModelled (mnemonic : String)
deriving DecidableEq, Repr

/-- The three outcomes of a step. -/
abbrev Outcome := Host.Outcome State Fault Refusal

/-! ## Creation values (R710, R711) -/

/-- R710: the CPU registers "zeroed" by power-on include the flags and the alternate set. -/
def Regs.zero : Regs where
  a := 0
  f := 0
  b := 0
  c := 0
  d := 0
  e := 0
  h := 0
  l := 0
  a' := 0
  f' := 0
  b' := 0
  c' := 0
  d' := 0
  e' := 0
  h' := 0
  l' := 0
  ix := 0
  iy := 0
  sp := 0
  pc := 0
  i := 0
  r := 0
  iff1 := false
  iff2 := false
  im := .im0
  halted := false
  eiShadow := false

/-- R711: masks and latches 0 but for the forced reset bit of the NMI mask. -/
def Latches.cleared : Latches where
  irqMask := 0x00
  irqLatch := 0x00
  nmiMask := 0x20
  nmiLatch := 0x00
  nmiSeen := false

/-- R580, R711. -/
def Fdc.cleared : Fdc where
  status := 0
  track := 0
  sector := 0
  data := 0
  command := 0
  byteCount := 0
  dataOffset := 0
  side := false
  drive := 0
  density := false
  motorOn := false
  motorTimeout := 0
  lastAddrIndex := -1
  stepDir := .inward

/-- The tables of a drive while no JV3 disk has been mounted in it. R580, R710 and R711 give a drive's
kind, image and head and no value for its tables, and no rule reads them before a mount writes
them: DESIGN CHOICE, empty lists (log entry 22). -/
def Jv3Tables.empty : Jv3Tables where
  ids := []
  offset := []
  sortedId := []
  trackStart := []
  freeHead := []

/-- R710: no disk, head at track 0; the tables by log entry 22. -/
def Drive.empty : Drive where
  kind := .none
  phys := 0
  image := []
  jv3 := .empty

/-- R660, R711, with no source mounted (R710). -/
def Cassette.cleared : Cassette where
  motor := false
  state := .close
  last := .neutral
  lastNonNeutral := .neutral
  flipflop := false
  motorOnClock := 0
  samplesRead := 0
  source := none
  tape := ⟨0, []⟩

/-- R690, R711. -/
def Keyboard.cleared : Keyboard where
  rows := Vector.replicate 8 0
  shiftForce := .neutral
  queue := []
  nextClock := 0

/-- The machine right after creation (R710, R711): no ROM image is supplied (romSize 0, log entry
2), memory lists nothing (log entry 1), no medium is mounted and the machine is not running. -/
def State.reset : State where
  cpu := .zero
  lat := .cleared
  modeImage := 0
  romSize := 0
  mem := []
  inited := []
  clock := 0
  nextTimer := Config.timerPeriod
  fault := none
  events := []
  seqNo := 0
  outputs := []
  fdc := .cleared
  drv := Vector.replicate 4 .empty
  cas := .cleared
  kbd := .cleared
  running := false
  breakpoints := []
  skipBreak := false
  shutDown := false
  inbox := []
  cfg := .hardware
  drawNo := 0

end Sys2Proof.Machine
end

