-- ==== Sys2Proof/Syntax.lean ====
section
/-! DEFINITION. The instructions: one constructor per row of spec/opcode_table.json, over operand
types whose values are the field values of R145 to R149. The rows with operands come first and then
those without, each in the table's order (Lean's compiler numbers constructors that have fields by
one byte). The name of a constructor is the mnemonic followed by its operands as the table spells
them: a memory operand `(m)` is `Atm`, an 8-bit register field is `R`, the half registers keep
their names. -/

namespace Sys2Proof

/-- An 8-bit register field without its memory value 6 (R145). -/
inductive Reg8 where
  | b
  | c
  | d
  | e
  | h
  | l
  | a
deriving DecidableEq, Repr

/-- The pair field `dd`/`ss` (R147). -/
inductive Pair where
  | bc
  | de
  | hl
  | sp
deriving DecidableEq, Repr

/-- The pair field `qq` of PUSH and POP (R147). -/
inductive StackPair where
  | bc
  | de
  | hl
  | af
deriving DecidableEq, Repr

/-- The pair fields `pp` and `rr`: value 2 is the index register of the instruction itself (R147,
R353). -/
inductive IdxPair where
  | bc
  | de
  | xy
  | sp
deriving DecidableEq, Repr

/-- The condition field `cc` (R148). -/
inductive Cond where
  | nz
  | z
  | nc
  | c
  | po
  | pe
  | p
  | m
deriving DecidableEq, Repr

/-- The condition field `jcc` of JR (R148). -/
inductive JCond where
  | nz
  | z
  | nc
  | c
deriving DecidableEq, Repr

/-- The operation field `rot` (R149, R375). -/
inductive RotOp where
  | rlc
  | rrc
  | rl
  | rr
  | sla
  | sra
  | sll
  | srl
deriving DecidableEq, Repr

/-- The instructions of spec/opcode_table.json. `n` is an immediate byte, `nn` an immediate word,
`d` a displacement, `e` a relative offset, `b` a bit number, `t` the restart number, `y` the opcode
field that tells the mirrors of one instruction apart (R151, R149). -/
inductive Instr where
  /-- `DJNZ e` (R427) -/
  | djnzE (e : Byte)
  /-- `JR e` (R423) -/
  | jrE (e : Byte)
  /-- `JR jcc,e` (R424) -/
  | jrJCCE (jcc : JCond) (e : Byte)
  /-- `LD dd,nn` (R230) -/
  | ldDDNN (p : Pair) (nn : Word)
  /-- `ADD HL,ss` (R350) -/
  | addHLSS (p : Pair)
  /-- `LD (nn),HL` (R235) -/
  | ldAtNNHL (nn : Word)
  /-- `LD HL,(nn)` (R232) -/
  | ldHLAtNN (nn : Word)
  /-- `LD (nn),A` (R213) -/
  | ldAtNNA (nn : Word)
  /-- `LD A,(nn)` (R210) -/
  | ldAAtNN (nn : Word)
  /-- `INC ss` (R354) -/
  | incSS (p : Pair)
  /-- `DEC ss` (R356) -/
  | decSS (p : Pair)
  /-- `INC r` (R300) -/
  | incR (r : Reg8)
  /-- `DEC r` (R303) -/
  | decR (r : Reg8)
  /-- `LD r,n` (R201) -/
  | ldRN (r : Reg8) (n : Byte)
  /-- `LD (HL),n` (R206) -/
  | ldAtHLN (n : Byte)
  /-- `LD r,r'` (R200) -/
  | ldRR (rd rs : Reg8)
  /-- `LD r,(HL)` (R202) -/
  | ldRAtHL (r : Reg8)
  /-- `LD (HL),r` (R204) -/
  | ldAtHLR (r : Reg8)
  /-- `ADD A,r` (R292) -/
  | addAR (r : Reg8)
  /-- `ADD A,n` (R292) -/
  | addAN (n : Byte)
  /-- `ADC A,r` (R293) -/
  | adcAR (r : Reg8)
  /-- `ADC A,n` (R293) -/
  | adcAN (n : Byte)
  /-- `SUB r` (R294) -/
  | subR (r : Reg8)
  /-- `SUB n` (R294) -/
  | subN (n : Byte)
  /-- `SBC A,r` (R295) -/
  | sbcAR (r : Reg8)
  /-- `SBC A,n` (R295) -/
  | sbcAN (n : Byte)
  /-- `AND r` (R296) -/
  | andR (r : Reg8)
  /-- `AND n` (R296) -/
  | andN (n : Byte)
  /-- `XOR r` (R297) -/
  | xorR (r : Reg8)
  /-- `XOR n` (R297) -/
  | xorN (n : Byte)
  /-- `OR r` (R298) -/
  | orR (r : Reg8)
  /-- `OR n` (R298) -/
  | orN (n : Byte)
  /-- `CP r` (R299) -/
  | cpR (r : Reg8)
  /-- `CP n` (R299) -/
  | cpN (n : Byte)
  /-- `RET cc` (R431) -/
  | retCC (cc : Cond)
  /-- `POP qq` (R242) -/
  | popQQ (q : StackPair)
  /-- `JP cc,nn` (R422) -/
  | jpCCNN (cc : Cond) (nn : Word)
  /-- `JP nn` (R420) -/
  | jpNN (nn : Word)
  /-- `OUT (n),A` (R467) -/
  | outAtNA (n : Byte)
  /-- `IN A,(n)` (R460) -/
  | inAAtN (n : Byte)
  /-- `CALL cc,nn` (R429) -/
  | callCCNN (cc : Cond) (nn : Word)
  /-- `PUSH qq` (R240) -/
  | pushQQ (q : StackPair)
  /-- `CALL nn` (R428) -/
  | callNN (nn : Word)
  /-- `RST p` (R435) -/
  | rstP (t : Fin 8)
  /-- `RLC r` (R376) -/
  | rlcR (r : Reg8)
  /-- `RRC r` (R377) -/
  | rrcR (r : Reg8)
  /-- `RL r` (R378) -/
  | rlR (r : Reg8)
  /-- `RR r` (R379) -/
  | rrR (r : Reg8)
  /-- `SLA r` (R380) -/
  | slaR (r : Reg8)
  /-- `SRA r` (R381) -/
  | sraR (r : Reg8)
  /-- `SLL r` (R383, extended) -/
  | sllR (r : Reg8)
  /-- `SRL r` (R382) -/
  | srlR (r : Reg8)
  /-- `BIT b,r` (R400) -/
  | bitBR (b : Fin 8) (r : Reg8)
  /-- `BIT b,(HL)` (R402) -/
  | bitBAtHL (b : Fin 8)
  /-- `RES b,r` (R404) -/
  | resBR (b : Fin 8) (r : Reg8)
  /-- `RES b,(HL)` (R404) -/
  | resBAtHL (b : Fin 8)
  /-- `SET b,r` (R403) -/
  | setBR (b : Fin 8) (r : Reg8)
  /-- `SET b,(HL)` (R403) -/
  | setBAtHL (b : Fin 8)
  /-- `IN r,(C)` (R461) -/
  | inRAtC (r : Reg8)
  /-- `OUT (C),r` (R468) -/
  | outAtCR (r : Reg8)
  /-- `SBC HL,ss` (R352) -/
  | sbcHLSS (p : Pair)
  /-- `ADC HL,ss` (R351) -/
  | adcHLSS (p : Pair)
  /-- `LD (nn),dd` (R236) -/
  | ldAtNNDD (p : Pair) (nn : Word)
  /-- `LD dd,(nn)` (R233) -/
  | ldDDAtNN (p : Pair) (nn : Word)
  /-- `NEG (mirror)` (R332, extended) -/
  | negMirror (y : Fin 8)
  /-- `RETN (mirror)` (R434, extended) -/
  | retnMirror (y : Fin 8)
  /-- `IM 0 (mirror)` (R333, extended) -/
  | im0Mirror (y : Fin 8)
  /-- `ADD IX,pp` (R353) -/
  | addIXPP (p : IdxPair)
  /-- `LD IX,nn` (R231) -/
  | ldIXNN (nn : Word)
  /-- `LD (nn),IX` (R237) -/
  | ldAtNNIX (nn : Word)
  /-- `LD IX,(nn)` (R234) -/
  | ldIXAtNN (nn : Word)
  /-- `INC (IX+d)` (R302) -/
  | incAtIXd (d : Byte)
  /-- `DEC (IX+d)` (R305) -/
  | decAtIXd (d : Byte)
  /-- `LD (IX+d),n` (R207) -/
  | ldAtIXdN (d n : Byte)
  /-- `LD r,(IX+d)` (R203) -/
  | ldRAtIXd (r : Reg8) (d : Byte)
  /-- `LD (IX+d),r` (R205) -/
  | ldAtIXdR (r : Reg8) (d : Byte)
  /-- `ADD A,(IX+d)` (R292) -/
  | addAAtIXd (d : Byte)
  /-- `ADC A,(IX+d)` (R293) -/
  | adcAAtIXd (d : Byte)
  /-- `SUB (IX+d)` (R294) -/
  | subAtIXd (d : Byte)
  /-- `SBC A,(IX+d)` (R295) -/
  | sbcAAtIXd (d : Byte)
  /-- `AND (IX+d)` (R296) -/
  | andAtIXd (d : Byte)
  /-- `XOR (IX+d)` (R297) -/
  | xorAtIXd (d : Byte)
  /-- `OR (IX+d)` (R298) -/
  | orAtIXd (d : Byte)
  /-- `CP (IX+d)` (R299) -/
  | cpAtIXd (d : Byte)
  /-- `LD HX,n` (R217, index-half) -/
  | ldHXN (n : Byte)
  /-- `LD LX,n` (R217, index-half) -/
  | ldLXN (n : Byte)
  /-- `LD r,HX` (R214, index-half) -/
  | ldRHX (r : Reg8)
  /-- `LD r,LX` (R214, index-half) -/
  | ldRLX (r : Reg8)
  /-- `LD HX,r` (R215, index-half) -/
  | ldHXR (r : Reg8)
  /-- `LD LX,r` (R215, index-half) -/
  | ldLXR (r : Reg8)
  /-- `RLC (IX+d)` (R376) -/
  | rlcAtIXd (d : Byte)
  /-- `RRC (IX+d)` (R377) -/
  | rrcAtIXd (d : Byte)
  /-- `RL (IX+d)` (R378) -/
  | rlAtIXd (d : Byte)
  /-- `RR (IX+d)` (R379) -/
  | rrAtIXd (d : Byte)
  /-- `SLA (IX+d)` (R380) -/
  | slaAtIXd (d : Byte)
  /-- `SRA (IX+d)` (R381) -/
  | sraAtIXd (d : Byte)
  /-- `SLL (IX+d)` (R383, extended) -/
  | sllAtIXd (d : Byte)
  /-- `SRL (IX+d)` (R382) -/
  | srlAtIXd (d : Byte)
  /-- `rot (IX+d),r` (R386, extended) -/
  | rotAtIXdR (o : RotOp) (d : Byte) (r : Reg8)
  /-- `BIT b,(IX+d)` (R401) -/
  | bitBAtIXd (b : Fin 8) (d : Byte)
  /-- `RES b,(IX+d)` (R404) -/
  | resBAtIXd (b : Fin 8) (d : Byte)
  /-- `SET b,(IX+d)` (R403) -/
  | setBAtIXd (b : Fin 8) (d : Byte)
  /-- `BIT b,(IX+d) (z mirror)` (R405, extended) -/
  | bitBAtIXdMirror (b : Fin 8) (d : Byte) (r : Reg8)
  /-- `RES b,(IX+d),r` (R405, extended) -/
  | resBAtIXdR (b : Fin 8) (d : Byte) (r : Reg8)
  /-- `SET b,(IX+d),r` (R405, extended) -/
  | setBAtIXdR (b : Fin 8) (d : Byte) (r : Reg8)
  /-- `ADD IY,rr` (R353) -/
  | addIYRR (p : IdxPair)
  /-- `LD IY,nn` (R231) -/
  | ldIYNN (nn : Word)
  /-- `LD (nn),IY` (R237) -/
  | ldAtNNIY (nn : Word)
  /-- `LD IY,(nn)` (R234) -/
  | ldIYAtNN (nn : Word)
  /-- `INC (IY+d)` (R302) -/
  | incAtIYd (d : Byte)
  /-- `DEC (IY+d)` (R305) -/
  | decAtIYd (d : Byte)
  /-- `LD (IY+d),n` (R207) -/
  | ldAtIYdN (d n : Byte)
  /-- `LD r,(IY+d)` (R203) -/
  | ldRAtIYd (r : Reg8) (d : Byte)
  /-- `LD (IY+d),r` (R205) -/
  | ldAtIYdR (r : Reg8) (d : Byte)
  /-- `ADD A,(IY+d)` (R292) -/
  | addAAtIYd (d : Byte)
  /-- `ADC A,(IY+d)` (R293) -/
  | adcAAtIYd (d : Byte)
  /-- `SUB (IY+d)` (R294) -/
  | subAtIYd (d : Byte)
  /-- `SBC A,(IY+d)` (R295) -/
  | sbcAAtIYd (d : Byte)
  /-- `AND (IY+d)` (R296) -/
  | andAtIYd (d : Byte)
  /-- `XOR (IY+d)` (R297) -/
  | xorAtIYd (d : Byte)
  /-- `OR (IY+d)` (R298) -/
  | orAtIYd (d : Byte)
  /-- `CP (IY+d)` (R299) -/
  | cpAtIYd (d : Byte)
  /-- `LD HY,n` (R217, index-half) -/
  | ldHYN (n : Byte)
  /-- `LD LY,n` (R217, index-half) -/
  | ldLYN (n : Byte)
  /-- `LD r,HY` (R214, index-half) -/
  | ldRHY (r : Reg8)
  /-- `LD r,LY` (R214, index-half) -/
  | ldRLY (r : Reg8)
  /-- `LD HY,r` (R215, index-half) -/
  | ldHYR (r : Reg8)
  /-- `LD LY,r` (R215, index-half) -/
  | ldLYR (r : Reg8)
  /-- `RLC (IY+d)` (R376) -/
  | rlcAtIYd (d : Byte)
  /-- `RRC (IY+d)` (R377) -/
  | rrcAtIYd (d : Byte)
  /-- `RL (IY+d)` (R378) -/
  | rlAtIYd (d : Byte)
  /-- `RR (IY+d)` (R379) -/
  | rrAtIYd (d : Byte)
  /-- `SLA (IY+d)` (R380) -/
  | slaAtIYd (d : Byte)
  /-- `SRA (IY+d)` (R381) -/
  | sraAtIYd (d : Byte)
  /-- `SLL (IY+d)` (R383, extended) -/
  | sllAtIYd (d : Byte)
  /-- `SRL (IY+d)` (R382) -/
  | srlAtIYd (d : Byte)
  /-- `rot (IY+d),r` (R386, extended) -/
  | rotAtIYdR (o : RotOp) (d : Byte) (r : Reg8)
  /-- `BIT b,(IY+d)` (R401) -/
  | bitBAtIYd (b : Fin 8) (d : Byte)
  /-- `RES b,(IY+d)` (R404) -/
  | resBAtIYd (b : Fin 8) (d : Byte)
  /-- `SET b,(IY+d)` (R403) -/
  | setBAtIYd (b : Fin 8) (d : Byte)
  /-- `BIT b,(IY+d) (z mirror)` (R405, extended) -/
  | bitBAtIYdMirror (b : Fin 8) (d : Byte) (r : Reg8)
  /-- `RES b,(IY+d),r` (R405, extended) -/
  | resBAtIYdR (b : Fin 8) (d : Byte) (r : Reg8)
  /-- `SET b,(IY+d),r` (R405, extended) -/
  | setBAtIYdR (b : Fin 8) (d : Byte) (r : Reg8)
  /-- `NOP` (R325) -/
  | nop
  /-- `EX AF,AF'` (R261) -/
  | exAFAF'
  /-- `LD (BC),A` (R211) -/
  | ldAtBCA
  /-- `LD A,(BC)` (R208) -/
  | ldAAtBC
  /-- `LD (DE),A` (R212) -/
  | ldAtDEA
  /-- `LD A,(DE)` (R209) -/
  | ldAAtDE
  /-- `INC (HL)` (R301) -/
  | incAtHL
  /-- `DEC (HL)` (R304) -/
  | decAtHL
  /-- `RLCA` (R370) -/
  | rlca
  /-- `RRCA` (R372) -/
  | rrca
  /-- `RLA` (R371) -/
  | rla
  /-- `RRA` (R373) -/
  | rra
  /-- `DAA` (R320) -/
  | daa
  /-- `CPL` (R321) -/
  | cpl
  /-- `SCF` (R324) -/
  | scf
  /-- `CCF` (R323) -/
  | ccf
  /-- `HALT` (R326) -/
  | halt
  /-- `ADD A,(HL)` (R292) -/
  | addAAtHL
  /-- `ADC A,(HL)` (R293) -/
  | adcAAtHL
  /-- `SUB (HL)` (R294) -/
  | subAtHL
  /-- `SBC A,(HL)` (R295) -/
  | sbcAAtHL
  /-- `AND (HL)` (R296) -/
  | andAtHL
  /-- `XOR (HL)` (R297) -/
  | xorAtHL
  /-- `OR (HL)` (R298) -/
  | orAtHL
  /-- `CP (HL)` (R299) -/
  | cpAtHL
  /-- `RET` (R430) -/
  | ret
  /-- `EXX` (R262) -/
  | exx
  /-- `JP (HL)` (R425) -/
  | jpHL
  /-- `LD SP,HL` (R238) -/
  | ldSPHL
  /-- `EX (SP),HL` (R263) -/
  | exAtSPHL
  /-- `EX DE,HL` (R260) -/
  | exDEHL
  /-- `DI` (R327) -/
  | di
  /-- `EI` (R328) -/
  | ei
  /-- `RLC (HL)` (R376) -/
  | rlcAtHL
  /-- `RRC (HL)` (R377) -/
  | rrcAtHL
  /-- `RL (HL)` (R378) -/
  | rlAtHL
  /-- `RR (HL)` (R379) -/
  | rrAtHL
  /-- `SLA (HL)` (R380) -/
  | slaAtHL
  /-- `SRA (HL)` (R381) -/
  | sraAtHL
  /-- `SLL (HL)` (R383, extended) -/
  | sllAtHL
  /-- `SRL (HL)` (R382) -/
  | srlAtHL
  /-- `IN F,(C)` (R462, extended) -/
  | inFAtC
  /-- `OUT (C),0` (R469, extended) -/
  | outAtC0
  /-- `NEG` (R322) -/
  | neg
  /-- `RETN` (R433) -/
  | retn
  /-- `RETI` (R432) -/
  | reti
  /-- `IM 0` (R329) -/
  | im0
  /-- `IM 1` (R330) -/
  | im1
  /-- `IM 2` (R331) -/
  | im2
  /-- `IM 1 (mirror)` (R333, extended) -/
  | im1Mirror
  /-- `IM 2 (mirror)` (R333, extended) -/
  | im2Mirror
  /-- `LD I,A` (R220) -/
  | ldVectorA
  /-- `LD R,A` (R221) -/
  | ldRefreshA
  /-- `LD A,I` (R218) -/
  | ldAVector
  /-- `LD A,R` (R219) -/
  | ldARefresh
  /-- `RRD` (R385) -/
  | rrd
  /-- `RLD` (R384) -/
  | rld
  /-- `LDI` (R266) -/
  | ldi
  /-- `CPI` (R270) -/
  | cpi
  /-- `INI` (R463) -/
  | ini
  /-- `OUTI` (R470) -/
  | outi
  /-- `LDD` (R268) -/
  | ldd
  /-- `CPD` (R272) -/
  | cpd
  /-- `IND` (R465) -/
  | ind
  /-- `OUTD` (R472) -/
  | outd
  /-- `LDIR` (R267) -/
  | ldir
  /-- `CPIR` (R271) -/
  | cpir
  /-- `INIR` (R464) -/
  | inir
  /-- `OTIR` (R471) -/
  | otir
  /-- `LDDR` (R269) -/
  | lddr
  /-- `CPDR` (R273) -/
  | cpdr
  /-- `INDR` (R466) -/
  | indr
  /-- `OTDR` (R473) -/
  | otdr
  /-- `INC IX` (R355) -/
  | incIX
  /-- `DEC IX` (R357) -/
  | decIX
  /-- `ADD A,HX` (R292, index-half) -/
  | addAHX
  /-- `ADD A,LX` (R292, index-half) -/
  | addALX
  /-- `ADC A,HX` (R293, index-half) -/
  | adcAHX
  /-- `ADC A,LX` (R293, index-half) -/
  | adcALX
  /-- `SUB HX` (R294, index-half) -/
  | subHX
  /-- `SUB LX` (R294, index-half) -/
  | subLX
  /-- `SBC A,HX` (R295, index-half) -/
  | sbcAHX
  /-- `SBC A,LX` (R295, index-half) -/
  | sbcALX
  /-- `AND HX` (R296, index-half) -/
  | andHX
  /-- `AND LX` (R296, index-half) -/
  | andLX
  /-- `XOR HX` (R297, index-half) -/
  | xorHX
  /-- `XOR LX` (R297, index-half) -/
  | xorLX
  /-- `OR HX` (R298, index-half) -/
  | orHX
  /-- `OR LX` (R298, index-half) -/
  | orLX
  /-- `CP HX` (R299, index-half) -/
  | cpHX
  /-- `CP LX` (R299, index-half) -/
  | cpLX
  /-- `POP IX` (R243) -/
  | popIX
  /-- `EX (SP),IX` (R264) -/
  | exAtSPIX
  /-- `PUSH IX` (R241) -/
  | pushIX
  /-- `JP (IX)` (R426) -/
  | jpIX
  /-- `LD SP,IX` (R239) -/
  | ldSPIX
  /-- `INC HX` (R300, index-half) -/
  | incHX
  /-- `DEC HX` (R303, index-half) -/
  | decHX
  /-- `INC LX` (R300, index-half) -/
  | incLX
  /-- `DEC LX` (R303, index-half) -/
  | decLX
  /-- `LD HX,HX` (R216, index-half) -/
  | ldHXHX
  /-- `LD HX,LX` (R216, index-half) -/
  | ldHXLX
  /-- `LD LX,HX` (R216, index-half) -/
  | ldLXHX
  /-- `LD LX,LX` (R216, index-half) -/
  | ldLXLX
  /-- `INC IY` (R355) -/
  | incIY
  /-- `DEC IY` (R357) -/
  | decIY
  /-- `ADD A,HY` (R292, index-half) -/
  | addAHY
  /-- `ADD A,LY` (R292, index-half) -/
  | addALY
  /-- `ADC A,HY` (R293, index-half) -/
  | adcAHY
  /-- `ADC A,LY` (R293, index-half) -/
  | adcALY
  /-- `SUB HY` (R294, index-half) -/
  | subHY
  /-- `SUB LY` (R294, index-half) -/
  | subLY
  /-- `SBC A,HY` (R295, index-half) -/
  | sbcAHY
  /-- `SBC A,LY` (R295, index-half) -/
  | sbcALY
  /-- `AND HY` (R296, index-half) -/
  | andHY
  /-- `AND LY` (R296, index-half) -/
  | andLY
  /-- `XOR HY` (R297, index-half) -/
  | xorHY
  /-- `XOR LY` (R297, index-half) -/
  | xorLY
  /-- `OR HY` (R298, index-half) -/
  | orHY
  /-- `OR LY` (R298, index-half) -/
  | orLY
  /-- `CP HY` (R299, index-half) -/
  | cpHY
  /-- `CP LY` (R299, index-half) -/
  | cpLY
  /-- `POP IY` (R243) -/
  | popIY
  /-- `EX (SP),IY` (R264) -/
  | exAtSPIY
  /-- `PUSH IY` (R241) -/
  | pushIY
  /-- `JP (IY)` (R426) -/
  | jpIY
  /-- `LD SP,IY` (R239) -/
  | ldSPIY
  /-- `INC HY` (R300, index-half) -/
  | incHY
  /-- `DEC HY` (R303, index-half) -/
  | decHY
  /-- `INC LY` (R300, index-half) -/
  | incLY
  /-- `DEC LY` (R303, index-half) -/
  | decLY
  /-- `LD HY,HY` (R216, index-half) -/
  | ldHYHY
  /-- `LD HY,LY` (R216, index-half) -/
  | ldHYLY
  /-- `LD LY,HY` (R216, index-half) -/
  | ldLYHY
  /-- `LD LY,LY` (R216, index-half) -/
  | ldLYLY
deriving DecidableEq, Repr

/-- The rows of the `extended` group, admitted only when UNDOC_EXTENDED is true (R141). -/
def Instr.extended : Instr → Bool
  | .sllR _ => true
  | .sllAtHL => true
  | .inFAtC => true
  | .outAtC0 => true
  | .negMirror _ => true
  | .retnMirror _ => true
  | .im0Mirror _ => true
  | .im1Mirror => true
  | .im2Mirror => true
  | .sllAtIXd _ => true
  | .rotAtIXdR _ _ _ => true
  | .bitBAtIXdMirror _ _ _ => true
  | .resBAtIXdR _ _ _ => true
  | .setBAtIXdR _ _ _ => true
  | .sllAtIYd _ => true
  | .rotAtIYdR _ _ _ => true
  | .bitBAtIYdMirror _ _ _ => true
  | .resBAtIYdR _ _ _ => true
  | .setBAtIYdR _ _ _ => true
  | _ => false

end Sys2Proof
end

