-- ==== Sys2Proof/Machine/Flags.lean ====
section
/-! DEFINITION. The flag register F bit by bit (R33), every flag computation of the instruction
rules, and the write of F with its undocumented bits (R14). -/

namespace Sys2Proof.Machine

/-- The eight bits of F (R33): sign, zero, undoc5, half carry, undoc3, parity/overflow,
add/subtract, carry. -/
structure Flags where
  s  : Bool
  z  : Bool
  f5 : Bool
  h  : Bool
  f3 : Bool
  pv : Bool
  n  : Bool
  c  : Bool
deriving DecidableEq, Repr

/-- F as a byte: bit 7 S, 6 Z, 5 F5, 4 H, 3 F3, 2 PV, 1 N, 0 C (R33). -/
def Flags.toByte (f : Flags) : Byte :=
  BitVec.ofBool f.s ++ BitVec.ofBool f.z ++ BitVec.ofBool f.f5 ++ BitVec.ofBool f.h ++
    BitVec.ofBool f.f3 ++ BitVec.ofBool f.pv ++ BitVec.ofBool f.n ++ BitVec.ofBool f.c

/-- The bits of a byte as flags (R33). -/
def Flags.ofByte (b : Byte) : Flags where
  s := b.getLsbD 7
  z := b.getLsbD 6
  f5 := b.getLsbD 5
  h := b.getLsbD 4
  f3 := b.getLsbD 3
  pv := b.getLsbD 2
  n := b.getLsbD 1
  c := b.getLsbD 0

/-- The flags of the state. -/
def State.flags (s : State) : Flags := Flags.ofByte s.cpu.f

/-- F written with no undocumented bit. -/
def State.setFlags (s : State) (f : Flags) : State := { s with cpu := { s.cpu with f := f.toByte } }

/-- F written with the bits of `mask` taken from a fresh draw (R13, R14) and the others exact. -/
def State.setFlagsDraw (s : State) (f : Flags) (mask : Byte) : State :=
  { s with
    cpu := { s.cpu with f := (f.toByte &&& ~~~mask) ||| (Config.draw s.drawNo &&& mask) }
    drawNo := s.drawNo + 1 }

/-- The `[gk-undoc]` bits under UNDOC_FLAGS: drawn under `draw`, the formula under `formula`
(R14). -/
def undocMask (policy : UndocFlags) (mask : Byte) : Byte :=
  match policy with
  | .draw => mask
  | .formula => 0x00

/-- F written with the bits of `mask` tagged `[gk-undoc]`: `f` gives their formula (R14). -/
def State.setFlagsUndoc (s : State) (f : Flags) (mask : Byte) : State :=
  s.setFlagsDraw f (undocMask s.cfg.undocFlags mask)

/-- The mask of F5 and F3. -/
def maskF53 : Byte := 0x28

/-! ## 8-bit arithmetic and logic (R290) -/

/-- S, Z, F5 and F3 of a result byte, the other bits as in `f`. -/
def Flags.ofResult (f : Flags) (r : Byte) : Flags :=
  { f with s := r.getLsbD 7, z := decide (r = 0), f5 := r.getLsbD 5, f3 := r.getLsbD 3 }

/-- All flags clear. -/
def Flags.none : Flags := ⟨false, false, false, false, false, false, false, false⟩

/-- `Add8(a, b, c)` (R290). -/
def add8 (a b : Byte) (c : Bool) : Byte × Flags :=
  let t := a.toNat + b.toNat + c.toNat
  let r := BitVec.ofNat 8 t
  (r, { Flags.none.ofResult r with
        h := decide (15 < a.toNat % 16 + b.toNat % 16 + c.toNat)
        pv := a.getLsbD 7 == b.getLsbD 7 && r.getLsbD 7 != a.getLsbD 7
        n := false
        c := decide (255 < t) })

/-- `Sub8(a, b, c)` (R290). -/
def sub8 (a b : Byte) (c : Bool) : Byte × Flags :=
  let t : Int := (a.toNat : Int) - b.toNat - c.toNat
  let r := BitVec.ofInt 8 t
  (r, { Flags.none.ofResult r with
        h := decide (a.toNat % 16 < b.toNat % 16 + c.toNat)
        pv := a.getLsbD 7 != b.getLsbD 7 && r.getLsbD 7 != a.getLsbD 7
        n := true
        c := decide (t < 0) })

/-- `Logic(r, h)` (R290). -/
def logic8 (r : Byte) (h : Bool) : Flags :=
  { Flags.none.ofResult r with h := h, pv := parity r, n := false, c := false }

/-- Flags of an 8-bit increment of `v` (R300); C unchanged. -/
def incFlags (old : Flags) (v : Byte) : Flags :=
  { old.ofResult (v + 1) with
    h := decide (v.toNat % 16 = 15), pv := decide (v = 0x7F), n := false }

/-- Flags of an 8-bit decrement of `v` (R303); C unchanged. -/
def decFlags (old : Flags) (v : Byte) : Flags :=
  { old.ofResult (v - 1) with
    h := decide (v.toNat % 16 = 0), pv := decide (v = 0x80), n := true }

/-! ## General-purpose (R320 to R324) -/

/-- `DAA` (R320): the adjusted A and the flags; N unchanged. -/
def daa (a : Byte) (f : Flags) : Byte × Flags :=
  let low := a.toNat % 16
  let fixLow := f.h || decide (9 < low)
  let fixHigh := f.c || decide (0x99 < a.toNat)
  let corr : Byte := (if fixLow then 0x06 else 0x00) ||| (if fixHigh then 0x60 else 0x00)
  let r := if f.n then a - corr else a + corr
  (r, { f.ofResult r with
        h := if f.n then f.h && decide (low < 6) else decide (9 < low)
        pv := parity r
        c := fixHigh })

/-- Flags of `CPL` with the new A (R321). -/
def cplFlags (old : Flags) (a : Byte) : Flags :=
  { old with h := true, n := true, f5 := a.getLsbD 5, f3 := a.getLsbD 3 }

/-- Flags of `CCF` (R323); F5 and F3 are the `[gk-undoc]` formula. -/
def ccfFlags (old : Flags) (a : Byte) : Flags :=
  { old with h := old.c, n := false, c := !old.c, f5 := a.getLsbD 5, f3 := a.getLsbD 3 }

/-- Flags of `SCF` (R324); F5 and F3 are the `[gk-undoc]` formula. -/
def scfFlags (old : Flags) (a : Byte) : Flags :=
  { old with h := false, n := false, c := true, f5 := a.getLsbD 5, f3 := a.getLsbD 3 }

/-- Flags of `LD A,I` and `LD A,R` with the new A (R218, R219); C unchanged. -/
def ldAIRFlags (old : Flags) (a : Byte) (iff2 : Bool) : Flags :=
  { old.ofResult a with h := false, pv := iff2, n := false }

/-! ## 16-bit arithmetic (R350 to R353) -/

/-- `ADD HL,ss` and `ADD XY,rr` (R350, R353): S, Z, PV unchanged; F5 and F3 are the `[gk-undoc]`
formula. -/
def add16 (old : Flags) (x y : Word) : Word × Flags :=
  let t := x.toNat + y.toNat
  let r := BitVec.ofNat 16 t
  (r, { old with
        h := decide (0xFFF < x.toNat % 4096 + y.toNat % 4096)
        n := false
        c := decide (0xFFFF < t)
        f5 := r.getLsbD 13
        f3 := r.getLsbD 11 })

/-- `ADC HL,ss` (R351); F5 and F3 are the `[gk-undoc]` formula. -/
def adc16 (x y : Word) (c : Bool) : Word × Flags :=
  let t := x.toNat + y.toNat + c.toNat
  let r := BitVec.ofNat 16 t
  (r, { s := r.getLsbD 15
        z := decide (r = 0)
        f5 := r.getLsbD 13
        h := decide (0xFFF < x.toNat % 4096 + y.toNat % 4096 + c.toNat)
        f3 := r.getLsbD 11
        pv := x.getLsbD 15 == y.getLsbD 15 && r.getLsbD 15 != x.getLsbD 15
        n := false
        c := decide (0xFFFF < t) })

/-- `SBC HL,ss` (R352); F5 and F3 are the `[gk-undoc]` formula. -/
def sbc16 (x y : Word) (c : Bool) : Word × Flags :=
  let t : Int := (x.toNat : Int) - y.toNat - c.toNat
  let r := BitVec.ofInt 16 t
  (r, { s := r.getLsbD 15
        z := decide (r = 0)
        f5 := r.getLsbD 13
        h := decide (x.toNat % 4096 < y.toNat % 4096 + c.toNat)
        f3 := r.getLsbD 11
        pv := x.getLsbD 15 != y.getLsbD 15 && r.getLsbD 15 != x.getLsbD 15
        n := true
        c := decide (t < 0) })

/-! ## Rotates and shifts (R370 to R385) -/

/-- `{v[6:0], b}`. -/
def shiftLeft (v : Byte) (b : Bool) : Byte := v.extractLsb' 0 7 ++ BitVec.ofBool b

/-- `{b, v[7:1]}`. -/
def shiftRight (b : Bool) (v : Byte) : Byte := BitVec.ofBool b ++ v.extractLsb' 1 7

/-- `Rot(op, v, cin)`: the result and the carry out (R375). -/
def rot (op : RotOp) (v : Byte) (cin : Bool) : Byte × Bool :=
  match op with
  | .rlc => (shiftLeft v (v.getLsbD 7), v.getLsbD 7)
  | .rrc => (shiftRight (v.getLsbD 0) v, v.getLsbD 0)
  | .rl => (shiftLeft v cin, v.getLsbD 7)
  | .rr => (shiftRight cin v, v.getLsbD 0)
  | .sla => (shiftLeft v false, v.getLsbD 7)
  | .sra => (shiftRight (v.getLsbD 7) v, v.getLsbD 0)
  | .sll => (shiftLeft v true, v.getLsbD 7)
  | .srl => (shiftRight false v, v.getLsbD 0)

/-- Flags of a CB rotate or shift with result `w` and carry out `c` (R375). -/
def rotFlags (w : Byte) (c : Bool) : Flags :=
  { Flags.none.ofResult w with h := false, pv := parity w, n := false, c := c }

/-- Flags of an accumulator rotate with the new A and the carry out (R370 to R373); S, Z, PV
unchanged. -/
def rotAFlags (old : Flags) (a : Byte) (c : Bool) : Flags :=
  { old with h := false, n := false, c := c, f5 := a.getLsbD 5, f3 := a.getLsbD 3 }

/-- Flags of `RLD`, `RRD` (R384) and `IN r,(C)` (R461) with the byte `v`; C unchanged. -/
def inFlags (old : Flags) (v : Byte) : Flags :=
  { old.ofResult v with h := false, pv := parity v, n := false }

/-! ## Bit test (R400 to R402) -/

/-- Flags of `BIT b` on a byte whose bit `b` is `t`; S, PV and, from `src5` and `src3`, F5 and F3
are the `[gk-undoc]` formula; C unchanged. -/
def bitFlags (old : Flags) (b : Fin 8) (t src5 src3 : Bool) : Flags :=
  { old with
    s := decide (b = 7) && t
    z := !t
    f5 := src5
    h := true
    f3 := src3
    pv := !t
    n := false }

/-- The `[gk-undoc]` bits of BIT: S, F5, F3, PV. -/
def maskBit : Byte := 0xAC

/-! ## Block transfer, search and input/output (R266 to R273, R474) -/

/-- Flags of the LDI family: `n` is A + v, `bc` the new BC; F3 and F5 are the `[gk-undoc]` formula
(R266). -/
def ldiFlags (old : Flags) (n : Byte) (bc : Word) : Flags :=
  { old with
    h := false, n := false, pv := decide (bc ≠ 0), f3 := n.getLsbD 3, f5 := n.getLsbD 1 }

/-- Flags of the CPI family for A and the byte `v`, `bc` the new BC; F3 and F5 are the `[gk-undoc]`
formula (R270); C unchanged. -/
def cpiFlags (old : Flags) (a v : Byte) (bc : Word) : Flags :=
  let r := a - v
  let hc := decide (a.toNat % 16 < v.toNat % 16)
  let n := r - (BitVec.ofBool hc).setWidth 8
  { old with
    s := r.getLsbD 7
    z := decide (r = 0)
    h := hc
    pv := decide (bc ≠ 0)
    n := true
    f3 := n.getLsbD 3
    f5 := n.getLsbD 1 }

/-- Flags of the block I/O instructions: `v` the byte transferred, `b` the new B, `k` the sum each
rule names; every flag but Z is the `[gk-undoc]` formula (R463, R474). -/
def blockIoFlags (v b : Byte) (k : Nat) : Flags where
  s := b.getLsbD 7
  z := decide (b = 0)
  f5 := b.getLsbD 5
  h := decide (255 < k)
  f3 := b.getLsbD 3
  pv := parity (BitVec.ofNat 8 (k % 8) ^^^ b)
  n := v.getLsbD 7
  c := decide (255 < k)

/-- The `[gk-undoc]` bits of block I/O: all but Z (R474). -/
def maskBlockIo : Byte := 0xBF

end Sys2Proof.Machine
end

