-- ==== Sys2Proof/Machine/Latches.lean ====
section
/-! DEFINITION. The latch primitives of R512 and R513, the pending tests of R510 and R511, the
observation append of R541, the clock advance of R730, and `raise Fatal` of R13. -/

namespace Sys2Proof.Machine

/-- `NmiUpdate()` on the latches: no unmasked bit pending clears `nmiSeen` (R512). -/
def Latches.nmiUpdate (l : Latches) : Latches :=
  if l.nmiMask &&& l.nmiLatch = 0 then { l with nmiSeen := false } else l

/-- `raiseIrq(bits)` (R513). -/
def State.raiseIrq (s : State) (bits : Byte) : State :=
  { s with lat := { s.lat with irqLatch := s.lat.irqLatch ||| bits } }

/-- `clearIrq(bits)` (R513). -/
def State.clearIrq (s : State) (bits : Byte) : State :=
  { s with lat := { s.lat with irqLatch := s.lat.irqLatch &&& ~~~bits } }

/-- `raiseNmi(bits)` (R513). -/
def State.raiseNmi (s : State) (bits : Byte) : State :=
  { s with lat := { s.lat with nmiLatch := s.lat.nmiLatch ||| bits }.nmiUpdate }

/-- `clearNmi(bits)` (R513). -/
def State.clearNmi (s : State) (bits : Byte) : State :=
  { s with lat := { s.lat with nmiLatch := s.lat.nmiLatch &&& ~~~bits }.nmiUpdate }

/-- A maskable interrupt is pending (R510). -/
def Latches.irqPending (l : Latches) : Bool := l.irqMask &&& l.irqLatch != 0

/-- An NMI is pending (R511). -/
def Latches.nmiPending (l : Latches) : Bool := l.nmiMask &&& l.nmiLatch != 0 && !l.nmiSeen

/-- `outputs <- outputs ++ [o]` (R541). -/
def State.emit (s : State) (o : Output) : State := { s with outputs := s.outputs ++ [o] }

/-- The cycles of an instruction added to the virtual clock, after its pseudocode (R530, R730). -/
def State.tick (s : State) (n : Nat) : State := { s with clock := s.clock + n }

/-- `raise Fatal(reason)` at state `s` (R13, R51, R500). -/
def State.fatal (s : State) (reason : FatalReason) : Fault :=
  .fatal reason { s with fault := some reason }

/-- The end of an operation that may raise: its state, or the fault it raised. -/
def finish : Except Fault State → Outcome
  | .ok s => .next s
  | .error f => .fault f

end Sys2Proof.Machine
end

