-- ==== Sys2Proof/Machine/Operands.lean ====
section
/-! DEFINITION. Operand access: registers by their decoded field, pairs, index registers and their
halves, effective addresses and conditions (R12, R30 to R32, R145 to R148, R151, R421). -/

namespace Sys2Proof.Machine

/-! ## 8-bit registers -/

/-- `x[r]` (R12, R145). -/
def Regs.get (c : Regs) : Reg8 → Byte
  | .b => c.b
  | .c => c.c
  | .d => c.d
  | .e => c.e
  | .h => c.h
  | .l => c.l
  | .a => c.a

/-- `x[r] <- v` (R12, R145). -/
def Regs.set (c : Regs) (r : Reg8) (v : Byte) : Regs :=
  match r with
  | .b => { c with b := v }
  | .c => { c with c := v }
  | .d => { c with d := v }
  | .e => { c with e := v }
  | .h => { c with h := v }
  | .l => { c with l := v }
  | .a => { c with a := v }

/-- `x[r]` of the state. -/
def State.reg (s : State) (r : Reg8) : Byte := s.cpu.get r

/-- `x[r] <- v` of the state. -/
def State.setReg (s : State) (r : Reg8) (v : Byte) : State := { s with cpu := s.cpu.set r v }

/-! ## Register pairs (R30): the first named register is the high byte -/

/-- BC. -/
def Regs.bc (c : Regs) : Word := pair c.b c.c
/-- DE. -/
def Regs.de (c : Regs) : Word := pair c.d c.e
/-- HL. -/
def Regs.hl (c : Regs) : Word := pair c.h c.l
/-- AF. -/
def Regs.af (c : Regs) : Word := pair c.a c.f

/-- `BC <- w`. -/
def Regs.setBC (c : Regs) (w : Word) : Regs := { c with b := hi w, c := lo w }
/-- `DE <- w`. -/
def Regs.setDE (c : Regs) (w : Word) : Regs := { c with d := hi w, e := lo w }
/-- `HL <- w`. -/
def Regs.setHL (c : Regs) (w : Word) : Regs := { c with h := hi w, l := lo w }
/-- `AF <- w`. -/
def Regs.setAF (c : Regs) (w : Word) : Regs := { c with a := hi w, f := lo w }

/-- BC of the state. -/
def State.bc (s : State) : Word := s.cpu.bc
/-- DE of the state. -/
def State.de (s : State) : Word := s.cpu.de
/-- HL of the state. -/
def State.hl (s : State) : Word := s.cpu.hl

/-- The pair `dd`/`ss` (R147). -/
def Regs.getPair (c : Regs) : Pair → Word
  | .bc => c.bc
  | .de => c.de
  | .hl => c.hl
  | .sp => c.sp

/-- `dd <- w` (R147). -/
def Regs.setPair (c : Regs) (p : Pair) (w : Word) : Regs :=
  match p with
  | .bc => c.setBC w
  | .de => c.setDE w
  | .hl => c.setHL w
  | .sp => { c with sp := w }

/-- The pair `qq` (R147). -/
def Regs.getStackPair (c : Regs) : StackPair → Word
  | .bc => c.bc
  | .de => c.de
  | .hl => c.hl
  | .af => c.af

/-- `qq <- w` (R147). -/
def Regs.setStackPair (c : Regs) (q : StackPair) (w : Word) : Regs :=
  match q with
  | .bc => c.setBC w
  | .de => c.setDE w
  | .hl => c.setHL w
  | .af => c.setAF w

/-- The registers of the state replaced. -/
def State.setCpu (s : State) (c : Regs) : State := { s with cpu := c }

/-! ## Index registers and their halves (R32, R146) -/

/-- `XY`: IX under prefix DD, IY under FD (R146). -/
inductive Idx where
  | ix
  | iy
deriving DecidableEq, Repr

/-- `XY`. -/
def Regs.getIdx (c : Regs) : Idx → Word
  | .ix => c.ix
  | .iy => c.iy

/-- `XY <- w`. -/
def Regs.setIdx (c : Regs) (x : Idx) (w : Word) : Regs :=
  match x with
  | .ix => { c with ix := w }
  | .iy => { c with iy := w }

/-- A half of an index register: HX, HY high, LX, LY low (R32). -/
inductive Half where
  | high
  | low
deriving DecidableEq, Repr

/-- `XH` or `XL`. -/
def Regs.getHalf (c : Regs) (x : Idx) : Half → Byte
  | .high => hi (c.getIdx x)
  | .low => lo (c.getIdx x)

/-- `XH <- v` or `XL <- v` (R215): the other half is kept. -/
def Regs.setHalf (c : Regs) (x : Idx) (h : Half) (v : Byte) : Regs :=
  match h with
  | .high => c.setIdx x (pair v (lo (c.getIdx x)))
  | .low => c.setIdx x (pair (hi (c.getIdx x)) v)

/-- `XY` of the state. -/
def State.idx (s : State) (x : Idx) : Word := s.cpu.getIdx x

/-- `XY <- w` of the state. -/
def State.setIdx (s : State) (x : Idx) (w : Word) : State := s.setCpu (s.cpu.setIdx x w)

/-- `XH` or `XL` of the state. -/
def State.half (s : State) (x : Idx) (h : Half) : Byte := s.cpu.getHalf x h

/-- `XH <- v` or `XL <- v` of the state. -/
def State.setHalf (s : State) (x : Idx) (h : Half) (v : Byte) : State :=
  s.setCpu (s.cpu.setHalf x h v)

/-- The pair `pp`/`rr` of `ADD XY` (R147, R353). -/
def Regs.getIdxPair (c : Regs) (x : Idx) : IdxPair → Word
  | .bc => c.bc
  | .de => c.de
  | .xy => c.getIdx x
  | .sp => c.sp

/-- The effective address `XY + sext_16(d)` (R151). -/
def State.ea (s : State) (x : Idx) (d : Byte) : Word := s.cpu.getIdx x + sext16 d

/-! ## Conditions (R421) -/

/-- `cond(cc)` on F (R421). -/
def condHolds (cc : Cond) (f : Byte) : Bool :=
  match cc with
  | .nz => !f.getLsbD 6
  | .z => f.getLsbD 6
  | .nc => !f.getLsbD 0
  | .c => f.getLsbD 0
  | .po => !f.getLsbD 2
  | .pe => f.getLsbD 2
  | .p => !f.getLsbD 7
  | .m => f.getLsbD 7

/-- `cond(jcc)`: the first four (R421). -/
def jcondHolds (jcc : JCond) (f : Byte) : Bool :=
  match jcc with
  | .nz => !f.getLsbD 6
  | .z => f.getLsbD 6
  | .nc => !f.getLsbD 0
  | .c => f.getLsbD 0

end Sys2Proof.Machine
end

