-- ==== Sys2Proof/Machine/Alu16.lean ====
section
/-! DEFINITION. The meanings of the 16-bit arithmetic group (45_alu16.md). -/

namespace Sys2Proof.Machine

/-- `ADD HL,ss` (R350). -/
def execAddHLSS (p : Pair) (s : State) : Outcome :=
  let r := add16 s.flags s.hl (s.cpu.getPair p)
  .next (((s.setCpu (s.cpu.setHL r.1)).setFlagsUndoc r.2 maskF53).tick 11)

/-- `ADC HL,ss` (R351). -/
def execAdcHLSS (p : Pair) (s : State) : Outcome :=
  let r := adc16 s.hl (s.cpu.getPair p) (s.cpu.f.getLsbD 0)
  .next (((s.setCpu (s.cpu.setHL r.1)).setFlagsUndoc r.2 maskF53).tick 15)

/-- `SBC HL,ss` (R352). -/
def execSbcHLSS (p : Pair) (s : State) : Outcome :=
  let r := sbc16 s.hl (s.cpu.getPair p) (s.cpu.f.getLsbD 0)
  .next (((s.setCpu (s.cpu.setHL r.1)).setFlagsUndoc r.2 maskF53).tick 15)

/-- `XY <- XY + rr` with the flags of R350 (R353). -/
def State.addIdx (s : State) (x : Idx) (p : IdxPair) : State :=
  let r := add16 s.flags (s.idx x) (s.cpu.getIdxPair x p)
  (s.setIdx x r.1).setFlagsUndoc r.2 maskF53

/-- `INC ss` (R354). -/
def execIncSS (p : Pair) (s : State) : Outcome :=
  .next ((s.setCpu (s.cpu.setPair p (s.cpu.getPair p + 1))).tick 6)

/-- `DEC ss` (R356). -/
def execDecSS (p : Pair) (s : State) : Outcome :=
  .next ((s.setCpu (s.cpu.setPair p (s.cpu.getPair p - 1))).tick 6)

/-- `ADD IX,pp` (R353). -/
def execAddIXPP (p : IdxPair) (s : State) : Outcome := .next ((s.addIdx .ix p).tick 15)

/-- `INC IX` (R355). -/
def execIncIX (s : State) : Outcome := .next ((s.setIdx .ix (s.idx .ix + 1)).tick 10)

/-- `DEC IX` (R357). -/
def execDecIX (s : State) : Outcome := .next ((s.setIdx .ix (s.idx .ix - 1)).tick 10)

/-- `ADD IY,rr` (R353). -/
def execAddIYRR (p : IdxPair) (s : State) : Outcome := .next ((s.addIdx .iy p).tick 15)

/-- `INC IY` (R355). -/
def execIncIY (s : State) : Outcome := .next ((s.setIdx .iy (s.idx .iy + 1)).tick 10)

/-- `DEC IY` (R357). -/
def execDecIY (s : State) : Outcome := .next ((s.setIdx .iy (s.idx .iy - 1)).tick 10)

end Sys2Proof.Machine
end

