-- ==== Sys2Proof/Machine/Keyboard.lean ====
section
/-! DEFINITION. The keyboard matrix scan engine (64_keyboard.md): the debounced dequeue, the
shift-force view, the row scan, and the host key map. -/

namespace Sys2Proof.Machine

/-- One activity applied to the matrix at clock `now` (R693, the body of the `if`). -/
def Keyboard.apply (kb : Keyboard) (k : KeyActivity) (now : Nat) : Keyboard :=
  { kb with
    rows := kb.rows.set k.row
      (if k.pressed then kb.rows[k.row] ||| bitMask k.bit else kb.rows[k.row] &&& ~~~(bitMask k.bit))
    shiftForce := if k.pressed then k.force else .neutral
    nextClock := now + Config.keyDelay }

/-- `KeyDequeue()` (R693): at most one activity, not before `nextClock`. -/
def State.keyDequeue (s : State) : State :=
  match s.kbd.queue with
  | [] => s
  | k :: rest =>
    if s.kbd.nextClock ≤ s.clock then
      { s with kbd := { s.kbd with queue := rest }.apply k s.clock }
    else s

/-- `ShiftView(r)` (R694). -/
def ShiftForce.view (f : ShiftForce) (r : Byte) : Byte :=
  match f with
  | .neutral => r
  | .forceUp => r &&& ~~~0x03
  | .forceDown => r ||| 0x01

/-- `Row(i)` (R692). -/
def Keyboard.row (kb : Keyboard) (i : Fin 8) : Byte :=
  if i = 7 then kb.shiftForce.view kb.rows[i] else kb.rows[i]

/-- The OR of the rows whose bit is set in the low byte of the address (R692), after the dequeue. -/
def Keyboard.scan (kb : Keyboard) (a : Word) : Byte :=
  (List.finRange 8).foldl (fun v (i : Fin 8) => if a.getLsbD i then v ||| kb.row i else v) 0x00

/-- A cell of the matrix and the force its key carries. -/
abbrev KeyCell := Fin 8 × Fin 8 × ShiftForce

/-- The cell of position `n` of the matrix counted row by row (R695). -/
def keyCellAt (n : Nat) (f : ShiftForce) : KeyCell :=
  (Fin.ofNat 8 (n / 8), Fin.ofNat 8 (n % 8), f)

/-- The host key map for characters (R695): `@ A..Z` from position 0, `0..9 : ; , - . /` from
position 32; `! " # $ % & ' ( )` are `1..9` with ForceDown, `* + < = > ?` are `: ; , - . /` with
ForceDown, `a..z` are `A..Z` with ForceDown. A character outside the map has no cell. -/
def asciiCell (code : Nat) : Option KeyCell :=
  if 0x40 ≤ code ∧ code ≤ 0x5A then some (keyCellAt (code - 0x40) .neutral)
  else if 0x61 ≤ code ∧ code ≤ 0x7A then some (keyCellAt (code - 0x60) .forceDown)
  else if 0x30 ≤ code ∧ code ≤ 0x3B then some (keyCellAt (code - 0x30 + 32) .neutral)
  else if 0x2C ≤ code ∧ code ≤ 0x2F then some (keyCellAt (code - 0x2C + 44) .neutral)
  else if 0x21 ≤ code ∧ code ≤ 0x2B then some (keyCellAt (code - 0x20 + 32) .forceDown)
  else if 0x3C ≤ code ∧ code ≤ 0x3F then some (keyCellAt (code - 0x3C + 44) .forceDown)
  else none

/-- The cell has a legend: the cells marked – are bits 3 to 7 of row 3 and bits 2 to 7 of row 7
(R695). -/
def hasLegend (row bit : Fin 8) : Bool := decide ((row = 3 → bit < 3) ∧ (row = 7 → bit < 2))

/-- `row(k)`, `bit(k)`, `force(k)` of a host key (R695). Cells marked – are never set, so a triple that
names one is no key (log entry 19). -/
def HostKey.toCell : HostKey → Option KeyCell
  | .ascii code => asciiCell code.toNat
  | .enter => some (6, 0, .neutral)
  | .clear => some (6, 1, .neutral)
  | .break => some (6, 2, .neutral)
  | .up => some (6, 3, .neutral)
  | .down => some (6, 4, .neutral)
  | .left => some (6, 5, .neutral)
  | .right => some (6, 6, .neutral)
  | .space => some (6, 7, .neutral)
  | .lshift => some (7, 0, .neutral)
  | .rshift => some (7, 1, .neutral)
  | .cell row bit force => if hasLegend row bit then some (row, bit, force) else none

/-- `press(k)` and `release(k)` (R691): an activity appended to the queue; a key outside the map
has no action. -/
def State.keyAction (s : State) (k : HostKey) (pressed : Bool) : State :=
  match k.toCell with
  | none => s
  | some (row, bit, force) =>
    { s with kbd := { s.kbd with queue := s.kbd.queue ++ [⟨row, bit, force, pressed⟩] } }

end Sys2Proof.Machine
end

