-- ==== Sys2Proof/Machine/Memory.lean ====
section
/-! DEFINITION. The byte store behind the memory router: reading and writing one cell of the
canonical list (R48), the canonical form itself, and the "initialized" flags. The router, which
decides what an address is, is in Machine/Ops.lean. -/

namespace Sys2Proof.Machine

/-- What a cell that no entry lists reads as: RAM_INIT is OPEN (R8, R48), so this is the model's
choice (DESIGN CHOICE, unsafe: log entry 1). -/
def unlistedByte : Byte := 0x00

/-- The byte of cell `a`. -/
def Memory.get : Memory → Nat → Byte
  | [], _ => unlistedByte
  | (k, v) :: m, a => if k = a then v else Memory.get m a

/-- The list without any entry for `a`. -/
def Memory.erase : Memory → Nat → Memory
  | [], _ => []
  | (k, v) :: m, a => if k = a then Memory.erase m a else (k, v) :: Memory.erase m a

/-- `m` with the entry `(a, v)` put before the first larger address. -/
def Memory.insert : Memory → Nat → Byte → Memory
  | [], a, v => [(a, v)]
  | (k, w) :: m, a, v => if a < k then (a, v) :: (k, w) :: m else (k, w) :: Memory.insert m a v

/-- The store of one byte, keeping the canonical form: writing what an unlisted cell reads as
removes the entry. -/
def Memory.set (m : Memory) (a : Nat) (v : Byte) : Memory :=
  if v = unlistedByte then Memory.erase m a else Memory.insert (Memory.erase m a) a v

/-- The bytes `bs` stored at `a` and up, behind the router. -/
def Memory.setBytes : Memory → Word → List Byte → Memory
  | m, _, [] => m
  | m, a, b :: bs => Memory.setBytes (m.set a.toNat b) (a + 1) bs

/-- Addresses strictly rising. -/
def rising : List Nat → Bool
  | a :: b :: l => decide (a < b) && rising (b :: l)
  | _ => true

/-- The canonical form: addresses strictly rising, below 65,536, no entry equal to what an
unlisted cell reads as. -/
def Memory.wf (m : Memory) : Bool :=
  rising (m.map Prod.fst) && m.all (fun c => decide (c.1 < 65536) && decide (c.2 ≠ unlistedByte))

/-- Sets the flag of `a` in a strictly rising list of flagged addresses (R48). -/
def markInited : List Nat → Nat → List Nat
  | [], a => [a]
  | k :: l, a => if a < k then a :: k :: l else if a = k then k :: l else k :: markInited l a

/-- The canonical form of the "initialized" flags. -/
def initedWf (l : List Nat) : Bool := rising l && l.all (fun a => decide (a < 65536))

/-- `mem[a] <- v; init[a] <- 1` (R81). -/
def State.store (s : State) (a : Word) (v : Byte) : State :=
  { s with mem := s.mem.set a.toNat v, inited := markInited s.inited a.toNat }

end Sys2Proof.Machine
end

