-- ==== Sys2Proof/Machine/Ops.lean ====
section
/-! DEFINITION. The shared operations over memory and the stack: the memory router (20_memory.md),
word accesses, Push and Pop (R13), the entry of an interrupt handler (R520, R522) and the return
from one (R432, R433). -/

namespace Sys2Proof.Machine

/-! ## The memory router (R80, R81) -/

/-- What an address is, in the router's order (R80, R83). -/
inductive Region where
  | rom
  | ram
  | screen
  | keyboard
  | printer
  | unmapped
deriving DecidableEq, Repr

/-- The first line of R80 that matches `a`. -/
def State.region (s : State) (a : Word) : Region :=
  if a.toNat < s.romSize then .rom
  else if 0x4000 ≤ a.toNat then .ram
  else if 0x3C00 ≤ a.toNat then .screen
  else if 0x3800 ≤ a.toNat ∧ a.toNat < 0x3900 then .keyboard
  else if a.toNat = 0x37E8 then .printer
  else .unmapped

/-- The state after `MemRead(a, 1)`: a read of the keyboard region runs the dequeue (R85, R91). -/
def State.afterRead (s : State) (a : Word) : State :=
  match s.region a with
  | .keyboard => s.keyDequeue
  | .rom | .ram | .screen | .printer | .unmapped => s

/-- The byte `MemRead(a, 1)` returns (R80, R84, R692). -/
def State.readByte (s : State) (a : Word) : Byte :=
  match s.region a with
  | .rom | .ram | .screen => s.mem.get a.toNat
  | .keyboard => s.keyDequeue.kbd.scan a
  | .printer => 0x30
  | .unmapped => 0xFF

/-- `MemWrite(a, 1, v)` (R81). -/
def State.memWrite (s : State) (a : Word) (v : Byte) : State :=
  match s.region a with
  | .ram => s.store a v
  | .screen => (s.store a v).emit (.screenWrite a v)
  | .rom | .keyboard | .printer | .unmapped => s

/-! ## Words and the stack (R13, R90) -/

/-- The state after `MemRead(a, 2)`: the low byte is read first (R13). -/
def State.afterReadWord (s : State) (a : Word) : State := (s.afterRead a).afterRead (a + 1)

/-- The word `MemRead(a, 2)` returns (R13, R88). -/
def State.readWord (s : State) (a : Word) : Word :=
  pair ((s.afterRead a).readByte (a + 1)) (s.readByte a)

/-- `MemWrite(a, 2, w)`: the low byte is written first (R13). -/
def State.memWriteWord (s : State) (a : Word) (w : Word) : State :=
  (s.memWrite a (lo w)).memWrite (a + 1) (hi w)

/-- `PC <- w`. -/
def State.setPC (s : State) (w : Word) : State := { s with cpu := { s.cpu with pc := w } }

/-- `SP <- w`. -/
def State.setSP (s : State) (w : Word) : State := { s with cpu := { s.cpu with sp := w } }

/-- `Push(w)` (R13): the high byte at SP−1 first, then the low byte at SP−2. -/
def State.push (s : State) (w : Word) : State :=
  let s1 := (s.setSP (s.cpu.sp - 1)).memWrite (s.cpu.sp - 1) (hi w)
  (s1.setSP (s.cpu.sp - 2)).memWrite (s.cpu.sp - 2) (lo w)

/-- The word `Pop()` returns (R13). -/
def State.popWord (s : State) : Word := s.readWord s.cpu.sp

/-- The state after `Pop()` (R13). -/
def State.afterPop (s : State) : State := (s.afterReadWord s.cpu.sp).setSP (s.cpu.sp + 2)

/-! ## Entry of an interrupt handler and return from it -/

/-- `resumeAfterHalt()` (R520): the value of the test. -/
def State.resumeAfterHalt (s : State) : Bool :=
  match s.cfg.haltResume with
  | .flag => s.cpu.halted
  | .opcodeAtPc => s.readByte s.cpu.pc == 0x76

/-- The state after the test `resumeAfterHalt()`: under `opcode_at_pc` it is a memory read (R520). -/
def State.afterHaltTest (s : State) : State :=
  match s.cfg.haltResume with
  | .flag => s
  | .opcodeAtPc => s.afterRead s.cpu.pc

/-- TAKING AN INTERRUPT, shared by NMI and IRQ entry (R520, R522): the PC moves past a HALT and is
pushed, `halted` is cleared, IFF1 is cleared, IFF2 takes `iff2`, and the PC goes to `vector`. -/
def State.enterHandler (s : State) (vector : Word) (iff2 : Bool) : State :=
  let resume := s.resumeAfterHalt
  let s1 := s.afterHaltTest
  let s2 := s1.setPC (if resume then s1.cpu.pc + 1 else s1.cpu.pc)
  let s3 := { s2 with cpu := { s2.cpu with halted := false } }
  let s4 := s3.push s3.cpu.pc
  { s4 with cpu := { s4.cpu with iff1 := false, iff2 := iff2, pc := vector } }

/-- RETURN FROM AN INTERRUPT HANDLER, shared by RETN and RETI (R432, R433):
`PC <- Pop(); IFF1 <- IFF2`. -/
def State.leaveHandler (s : State) : State :=
  let s1 := s.afterPop.setPC s.popWord
  { s1 with cpu := { s1.cpu with iff1 := s1.cpu.iff2 } }

end Sys2Proof.Machine
end

