-- ==== Sys2Proof/Machine/Alu8.lean ====
section
/-! DEFINITION. The meanings of the 8-bit arithmetic and logic group (43_alu8.md). -/

namespace Sys2Proof.Machine

/-- The two-operand operations (R291). -/
inductive AluOp where
  | add
  | adc
  | sub
  | sbc
  | and
  | xor
  | or
  | cp
deriving DecidableEq, Repr

/-- The operation on A and the operand `v` (R292 to R299); the F5 and F3 of CP are the
`[gk-undoc]` formula of R299. -/
def State.alu (s : State) (op : AluOp) (v : Byte) : State :=
  let a := s.cpu.a
  let c := s.cpu.f.getLsbD 0
  match op with
  | .add => (s.setReg .a (add8 a v false).1).setFlags (add8 a v false).2
  | .adc => (s.setReg .a (add8 a v c).1).setFlags (add8 a v c).2
  | .sub => (s.setReg .a (sub8 a v false).1).setFlags (sub8 a v false).2
  | .sbc => (s.setReg .a (sub8 a v c).1).setFlags (sub8 a v c).2
  | .and => (s.setReg .a (a &&& v)).setFlags (logic8 (a &&& v) true)
  | .xor => (s.setReg .a (a ^^^ v)).setFlags (logic8 (a ^^^ v) false)
  | .or => (s.setReg .a (a ||| v)).setFlags (logic8 (a ||| v) false)
  | .cp =>
    s.setFlagsUndoc { (sub8 a v false).2 with f5 := v.getLsbD 5, f3 := v.getLsbD 3 } maskF53

/-- The operation on A and the byte at `a` (R291). -/
def State.aluAt (s : State) (op : AluOp) (a : Word) : State := (s.afterRead a).alu op (s.readByte a)

/-! ## The two-operand group (R291 to R299) -/

/-- `ADD A,r` (R292). -/
def execAddAR (r : Reg8) (s : State) : Outcome := .next ((s.alu .add (s.reg r)).tick 4)

/-- `ADD A,n` (R292). -/
def execAddAN (n : Byte) (s : State) : Outcome := .next ((s.alu .add n).tick 7)

/-- `ADD A,(HL)` (R292). -/
def execAddAAtHL (s : State) : Outcome := .next ((s.aluAt .add s.hl).tick 7)

/-- `ADD A,(IX+d)` (R292). -/
def execAddAAtIXd (d : Byte) (s : State) : Outcome := .next ((s.aluAt .add (s.ea .ix d)).tick 19)

/-- `ADD A,HX` (R292). -/
def execAddAHX (s : State) : Outcome := .next ((s.alu .add (s.half .ix .high)).tick 8)

/-- `ADD A,LX` (R292). -/
def execAddALX (s : State) : Outcome := .next ((s.alu .add (s.half .ix .low)).tick 8)

/-- `ADD A,(IY+d)` (R292). -/
def execAddAAtIYd (d : Byte) (s : State) : Outcome := .next ((s.aluAt .add (s.ea .iy d)).tick 19)

/-- `ADD A,HY` (R292). -/
def execAddAHY (s : State) : Outcome := .next ((s.alu .add (s.half .iy .high)).tick 8)

/-- `ADD A,LY` (R292). -/
def execAddALY (s : State) : Outcome := .next ((s.alu .add (s.half .iy .low)).tick 8)

/-- `ADC A,r` (R293). -/
def execAdcAR (r : Reg8) (s : State) : Outcome := .next ((s.alu .adc (s.reg r)).tick 4)

/-- `ADC A,n` (R293). -/
def execAdcAN (n : Byte) (s : State) : Outcome := .next ((s.alu .adc n).tick 7)

/-- `ADC A,(HL)` (R293). -/
def execAdcAAtHL (s : State) : Outcome := .next ((s.aluAt .adc s.hl).tick 7)

/-- `ADC A,(IX+d)` (R293). -/
def execAdcAAtIXd (d : Byte) (s : State) : Outcome := .next ((s.aluAt .adc (s.ea .ix d)).tick 19)

/-- `ADC A,HX` (R293). -/
def execAdcAHX (s : State) : Outcome := .next ((s.alu .adc (s.half .ix .high)).tick 8)

/-- `ADC A,LX` (R293). -/
def execAdcALX (s : State) : Outcome := .next ((s.alu .adc (s.half .ix .low)).tick 8)

/-- `ADC A,(IY+d)` (R293). -/
def execAdcAAtIYd (d : Byte) (s : State) : Outcome := .next ((s.aluAt .adc (s.ea .iy d)).tick 19)

/-- `ADC A,HY` (R293). -/
def execAdcAHY (s : State) : Outcome := .next ((s.alu .adc (s.half .iy .high)).tick 8)

/-- `ADC A,LY` (R293). -/
def execAdcALY (s : State) : Outcome := .next ((s.alu .adc (s.half .iy .low)).tick 8)

/-- `SUB r` (R294). -/
def execSubR (r : Reg8) (s : State) : Outcome := .next ((s.alu .sub (s.reg r)).tick 4)

/-- `SUB n` (R294). -/
def execSubN (n : Byte) (s : State) : Outcome := .next ((s.alu .sub n).tick 7)

/-- `SUB (HL)` (R294). -/
def execSubAtHL (s : State) : Outcome := .next ((s.aluAt .sub s.hl).tick 7)

/-- `SUB (IX+d)` (R294). -/
def execSubAtIXd (d : Byte) (s : State) : Outcome := .next ((s.aluAt .sub (s.ea .ix d)).tick 19)

/-- `SUB HX` (R294). -/
def execSubHX (s : State) : Outcome := .next ((s.alu .sub (s.half .ix .high)).tick 8)

/-- `SUB LX` (R294). -/
def execSubLX (s : State) : Outcome := .next ((s.alu .sub (s.half .ix .low)).tick 8)

/-- `SUB (IY+d)` (R294). -/
def execSubAtIYd (d : Byte) (s : State) : Outcome := .next ((s.aluAt .sub (s.ea .iy d)).tick 19)

/-- `SUB HY` (R294). -/
def execSubHY (s : State) : Outcome := .next ((s.alu .sub (s.half .iy .high)).tick 8)

/-- `SUB LY` (R294). -/
def execSubLY (s : State) : Outcome := .next ((s.alu .sub (s.half .iy .low)).tick 8)

/-- `SBC A,r` (R295). -/
def execSbcAR (r : Reg8) (s : State) : Outcome := .next ((s.alu .sbc (s.reg r)).tick 4)

/-- `SBC A,n` (R295). -/
def execSbcAN (n : Byte) (s : State) : Outcome := .next ((s.alu .sbc n).tick 7)

/-- `SBC A,(HL)` (R295). -/
def execSbcAAtHL (s : State) : Outcome := .next ((s.aluAt .sbc s.hl).tick 7)

/-- `SBC A,(IX+d)` (R295). -/
def execSbcAAtIXd (d : Byte) (s : State) : Outcome := .next ((s.aluAt .sbc (s.ea .ix d)).tick 19)

/-- `SBC A,HX` (R295). -/
def execSbcAHX (s : State) : Outcome := .next ((s.alu .sbc (s.half .ix .high)).tick 8)

/-- `SBC A,LX` (R295). -/
def execSbcALX (s : State) : Outcome := .next ((s.alu .sbc (s.half .ix .low)).tick 8)

/-- `SBC A,(IY+d)` (R295). -/
def execSbcAAtIYd (d : Byte) (s : State) : Outcome := .next ((s.aluAt .sbc (s.ea .iy d)).tick 19)

/-- `SBC A,HY` (R295). -/
def execSbcAHY (s : State) : Outcome := .next ((s.alu .sbc (s.half .iy .high)).tick 8)

/-- `SBC A,LY` (R295). -/
def execSbcALY (s : State) : Outcome := .next ((s.alu .sbc (s.half .iy .low)).tick 8)

/-- `AND r` (R296). -/
def execAndR (r : Reg8) (s : State) : Outcome := .next ((s.alu .and (s.reg r)).tick 4)

/-- `AND n` (R296). -/
def execAndN (n : Byte) (s : State) : Outcome := .next ((s.alu .and n).tick 7)

/-- `AND (HL)` (R296). -/
def execAndAtHL (s : State) : Outcome := .next ((s.aluAt .and s.hl).tick 7)

/-- `AND (IX+d)` (R296). -/
def execAndAtIXd (d : Byte) (s : State) : Outcome := .next ((s.aluAt .and (s.ea .ix d)).tick 19)

/-- `AND HX` (R296). -/
def execAndHX (s : State) : Outcome := .next ((s.alu .and (s.half .ix .high)).tick 8)

/-- `AND LX` (R296). -/
def execAndLX (s : State) : Outcome := .next ((s.alu .and (s.half .ix .low)).tick 8)

/-- `AND (IY+d)` (R296). -/
def execAndAtIYd (d : Byte) (s : State) : Outcome := .next ((s.aluAt .and (s.ea .iy d)).tick 19)

/-- `AND HY` (R296). -/
def execAndHY (s : State) : Outcome := .next ((s.alu .and (s.half .iy .high)).tick 8)

/-- `AND LY` (R296). -/
def execAndLY (s : State) : Outcome := .next ((s.alu .and (s.half .iy .low)).tick 8)

/-- `XOR r` (R297). -/
def execXorR (r : Reg8) (s : State) : Outcome := .next ((s.alu .xor (s.reg r)).tick 4)

/-- `XOR n` (R297). -/
def execXorN (n : Byte) (s : State) : Outcome := .next ((s.alu .xor n).tick 7)

/-- `XOR (HL)` (R297). -/
def execXorAtHL (s : State) : Outcome := .next ((s.aluAt .xor s.hl).tick 7)

/-- `XOR (IX+d)` (R297). -/
def execXorAtIXd (d : Byte) (s : State) : Outcome := .next ((s.aluAt .xor (s.ea .ix d)).tick 19)

/-- `XOR HX` (R297). -/
def execXorHX (s : State) : Outcome := .next ((s.alu .xor (s.half .ix .high)).tick 8)

/-- `XOR LX` (R297). -/
def execXorLX (s : State) : Outcome := .next ((s.alu .xor (s.half .ix .low)).tick 8)

/-- `XOR (IY+d)` (R297). -/
def execXorAtIYd (d : Byte) (s : State) : Outcome := .next ((s.aluAt .xor (s.ea .iy d)).tick 19)

/-- `XOR HY` (R297). -/
def execXorHY (s : State) : Outcome := .next ((s.alu .xor (s.half .iy .high)).tick 8)

/-- `XOR LY` (R297). -/
def execXorLY (s : State) : Outcome := .next ((s.alu .xor (s.half .iy .low)).tick 8)

/-- `OR r` (R298). -/
def execOrR (r : Reg8) (s : State) : Outcome := .next ((s.alu .or (s.reg r)).tick 4)

/-- `OR n` (R298). -/
def execOrN (n : Byte) (s : State) : Outcome := .next ((s.alu .or n).tick 7)

/-- `OR (HL)` (R298). -/
def execOrAtHL (s : State) : Outcome := .next ((s.aluAt .or s.hl).tick 7)

/-- `OR (IX+d)` (R298). -/
def execOrAtIXd (d : Byte) (s : State) : Outcome := .next ((s.aluAt .or (s.ea .ix d)).tick 19)

/-- `OR HX` (R298). -/
def execOrHX (s : State) : Outcome := .next ((s.alu .or (s.half .ix .high)).tick 8)

/-- `OR LX` (R298). -/
def execOrLX (s : State) : Outcome := .next ((s.alu .or (s.half .ix .low)).tick 8)

/-- `OR (IY+d)` (R298). -/
def execOrAtIYd (d : Byte) (s : State) : Outcome := .next ((s.aluAt .or (s.ea .iy d)).tick 19)

/-- `OR HY` (R298). -/
def execOrHY (s : State) : Outcome := .next ((s.alu .or (s.half .iy .high)).tick 8)

/-- `OR LY` (R298). -/
def execOrLY (s : State) : Outcome := .next ((s.alu .or (s.half .iy .low)).tick 8)

/-- `CP r` (R299). -/
def execCpR (r : Reg8) (s : State) : Outcome := .next ((s.alu .cp (s.reg r)).tick 4)

/-- `CP n` (R299). -/
def execCpN (n : Byte) (s : State) : Outcome := .next ((s.alu .cp n).tick 7)

/-- `CP (HL)` (R299). -/
def execCpAtHL (s : State) : Outcome := .next ((s.aluAt .cp s.hl).tick 7)

/-- `CP (IX+d)` (R299). -/
def execCpAtIXd (d : Byte) (s : State) : Outcome := .next ((s.aluAt .cp (s.ea .ix d)).tick 19)

/-- `CP HX` (R299). -/
def execCpHX (s : State) : Outcome := .next ((s.alu .cp (s.half .ix .high)).tick 8)

/-- `CP LX` (R299). -/
def execCpLX (s : State) : Outcome := .next ((s.alu .cp (s.half .ix .low)).tick 8)

/-- `CP (IY+d)` (R299). -/
def execCpAtIYd (d : Byte) (s : State) : Outcome := .next ((s.aluAt .cp (s.ea .iy d)).tick 19)

/-- `CP HY` (R299). -/
def execCpHY (s : State) : Outcome := .next ((s.alu .cp (s.half .iy .high)).tick 8)

/-- `CP LY` (R299). -/
def execCpLY (s : State) : Outcome := .next ((s.alu .cp (s.half .iy .low)).tick 8)

/-! ## Increment and decrement (R300 to R305) -/

/-- `x[r] <- x[r] + 1` with its flags (R300). -/
def State.incReg (s : State) (r : Reg8) : State :=
  (s.setReg r (s.reg r + 1)).setFlags (incFlags s.flags (s.reg r))

/-- The same on an index-register half (R300). -/
def State.incHalf (s : State) (x : Idx) (h : Half) : State :=
  (s.setHalf x h (s.half x h + 1)).setFlags (incFlags s.flags (s.half x h))

/-- The same on the byte at `a` (R301, R302). -/
def State.incAt (s : State) (a : Word) : State :=
  let v := s.readByte a
  ((s.afterRead a).memWrite a (v + 1)).setFlags (incFlags s.flags v)

/-- `INC r` (R300). -/
def execIncR (r : Reg8) (s : State) : Outcome := .next ((s.incReg r).tick 4)

/-- `INC (HL)` (R301). -/
def execIncAtHL (s : State) : Outcome := .next ((s.incAt s.hl).tick 11)

/-- `INC (IX+d)` (R302). -/
def execIncAtIXd (d : Byte) (s : State) : Outcome := .next ((s.incAt (s.ea .ix d)).tick 23)

/-- `INC HX` (R300). -/
def execIncHX (s : State) : Outcome := .next ((s.incHalf .ix .high).tick 8)

/-- `INC LX` (R300). -/
def execIncLX (s : State) : Outcome := .next ((s.incHalf .ix .low).tick 8)

/-- `INC (IY+d)` (R302). -/
def execIncAtIYd (d : Byte) (s : State) : Outcome := .next ((s.incAt (s.ea .iy d)).tick 23)

/-- `INC HY` (R300). -/
def execIncHY (s : State) : Outcome := .next ((s.incHalf .iy .high).tick 8)

/-- `INC LY` (R300). -/
def execIncLY (s : State) : Outcome := .next ((s.incHalf .iy .low).tick 8)

/-- `x[r] <- x[r] - 1` with its flags (R303). -/
def State.decReg (s : State) (r : Reg8) : State :=
  (s.setReg r (s.reg r - 1)).setFlags (decFlags s.flags (s.reg r))

/-- The same on an index-register half (R303). -/
def State.decHalf (s : State) (x : Idx) (h : Half) : State :=
  (s.setHalf x h (s.half x h - 1)).setFlags (decFlags s.flags (s.half x h))

/-- The same on the byte at `a` (R304, R305). -/
def State.decAt (s : State) (a : Word) : State :=
  let v := s.readByte a
  ((s.afterRead a).memWrite a (v - 1)).setFlags (decFlags s.flags v)

/-- `DEC r` (R303). -/
def execDecR (r : Reg8) (s : State) : Outcome := .next ((s.decReg r).tick 4)

/-- `DEC (HL)` (R304). -/
def execDecAtHL (s : State) : Outcome := .next ((s.decAt s.hl).tick 11)

/-- `DEC (IX+d)` (R305). -/
def execDecAtIXd (d : Byte) (s : State) : Outcome := .next ((s.decAt (s.ea .ix d)).tick 23)

/-- `DEC HX` (R303). -/
def execDecHX (s : State) : Outcome := .next ((s.decHalf .ix .high).tick 8)

/-- `DEC LX` (R303). -/
def execDecLX (s : State) : Outcome := .next ((s.decHalf .ix .low).tick 8)

/-- `DEC (IY+d)` (R305). -/
def execDecAtIYd (d : Byte) (s : State) : Outcome := .next ((s.decAt (s.ea .iy d)).tick 23)

/-- `DEC HY` (R303). -/
def execDecHY (s : State) : Outcome := .next ((s.decHalf .iy .high).tick 8)

/-- `DEC LY` (R303). -/
def execDecLY (s : State) : Outcome := .next ((s.decHalf .iy .low).tick 8)

end Sys2Proof.Machine
end

