-- ==== Sys2Proof/Machine/BitOps.lean ====
section
/-! DEFINITION. The meanings of the bit set, reset and test group (47_bit.md). -/

namespace Sys2Proof.Machine

/-- `v | (1 << b)` (R403). -/
def setBit (v : Byte) (b : Fin 8) : Byte := v ||| bitMask b

/-- `v & ~(1 << b)` (R404). -/
def resetBit (v : Byte) (b : Fin 8) : Byte := v &&& ~~~(bitMask b)

/-- The byte at `a` replaced by `f` of it (R374). -/
def State.modifyAt (s : State) (a : Word) (f : Byte → Byte) : State :=
  (s.afterRead a).memWrite a (f (s.readByte a))

/-- The same, the result also in a register (R405). -/
def State.modifyAtCopy (s : State) (a : Word) (r : Reg8) (f : Byte → Byte) : State :=
  (s.modifyAt a f).setReg r (f (s.readByte a))

/-- `BIT b` on the byte at `XY+d`: F5 and F3 from the address (R401). -/
def State.bitAtIdx (s : State) (b : Fin 8) (x : Idx) (d : Byte) : State :=
  let a := s.ea x d
  (s.afterRead a).setFlagsUndoc
    (bitFlags s.flags b ((s.readByte a).getLsbD b) (a.getLsbD 13) (a.getLsbD 11)) maskBit

/-- `BIT b,r` (R400). -/
def execBitBR (b : Fin 8) (r : Reg8) (s : State) : Outcome :=
  let v := s.reg r
  .next ((s.setFlagsUndoc (bitFlags s.flags b (v.getLsbD b) (v.getLsbD 5) (v.getLsbD 3))
    maskBit).tick 8)

/-- `BIT b,(HL)` (R402): F5 and F3 are a draw under both policies, S and PV as UNDOC_FLAGS says. -/
def execBitBAtHL (b : Fin 8) (s : State) : Outcome :=
  .next (((s.afterRead s.hl).setFlagsDraw
    (bitFlags s.flags b ((s.readByte s.hl).getLsbD b) false false)
    (maskF53 ||| undocMask s.cfg.undocFlags (maskBit &&& ~~~maskF53))).tick 12)

/-- `SET b,r` (R403). -/
def execSetBR (b : Fin 8) (r : Reg8) (s : State) : Outcome :=
  .next ((s.setReg r (setBit (s.reg r) b)).tick 8)

/-- `SET b,(HL)` (R403). -/
def execSetBAtHL (b : Fin 8) (s : State) : Outcome :=
  .next ((s.modifyAt s.hl fun v => setBit v b).tick 15)

/-- `RES b,r` (R404). -/
def execResBR (b : Fin 8) (r : Reg8) (s : State) : Outcome :=
  .next ((s.setReg r (resetBit (s.reg r) b)).tick 8)

/-- `RES b,(HL)` (R404). -/
def execResBAtHL (b : Fin 8) (s : State) : Outcome :=
  .next ((s.modifyAt s.hl fun v => resetBit v b).tick 15)

/-! ## (IX+d) (R401, R403 to R405) -/

/-- `BIT b,(IX+d)` (R401). -/
def execBitBAtIXd (b : Fin 8) (d : Byte) (s : State) : Outcome :=
  .next ((s.bitAtIdx b .ix d).tick 20)

/-- `BIT b,(IX+d)` with a register field, which is ignored (R405). -/
def execBitBAtIXdMirror (b : Fin 8) (d : Byte) (_r : Reg8) (s : State) : Outcome :=
  .next ((s.bitAtIdx b .ix d).tick 20)

/-- `SET b,(IX+d)` (R403). -/
def execSetBAtIXd (b : Fin 8) (d : Byte) (s : State) : Outcome :=
  .next ((s.modifyAt (s.ea .ix d) fun v => setBit v b).tick 23)

/-- `SET b,(IX+d),r` (R405). -/
def execSetBAtIXdR (b : Fin 8) (d : Byte) (r : Reg8) (s : State) : Outcome :=
  .next ((s.modifyAtCopy (s.ea .ix d) r fun v => setBit v b).tick 23)

/-- `RES b,(IX+d)` (R404). -/
def execResBAtIXd (b : Fin 8) (d : Byte) (s : State) : Outcome :=
  .next ((s.modifyAt (s.ea .ix d) fun v => resetBit v b).tick 23)

/-- `RES b,(IX+d),r` (R405). -/
def execResBAtIXdR (b : Fin 8) (d : Byte) (r : Reg8) (s : State) : Outcome :=
  .next ((s.modifyAtCopy (s.ea .ix d) r fun v => resetBit v b).tick 23)

/-! ## (IY+d) (R401, R403 to R405) -/

/-- `BIT b,(IY+d)` (R401). -/
def execBitBAtIYd (b : Fin 8) (d : Byte) (s : State) : Outcome :=
  .next ((s.bitAtIdx b .iy d).tick 20)

/-- `BIT b,(IY+d)` with a register field, which is ignored (R405). -/
def execBitBAtIYdMirror (b : Fin 8) (d : Byte) (_r : Reg8) (s : State) : Outcome :=
  .next ((s.bitAtIdx b .iy d).tick 20)

/-- `SET b,(IY+d)` (R403). -/
def execSetBAtIYd (b : Fin 8) (d : Byte) (s : State) : Outcome :=
  .next ((s.modifyAt (s.ea .iy d) fun v => setBit v b).tick 23)

/-- `SET b,(IY+d),r` (R405). -/
def execSetBAtIYdR (b : Fin 8) (d : Byte) (r : Reg8) (s : State) : Outcome :=
  .next ((s.modifyAtCopy (s.ea .iy d) r fun v => setBit v b).tick 23)

/-- `RES b,(IY+d)` (R404). -/
def execResBAtIYd (b : Fin 8) (d : Byte) (s : State) : Outcome :=
  .next ((s.modifyAt (s.ea .iy d) fun v => resetBit v b).tick 23)

/-- `RES b,(IY+d),r` (R405). -/
def execResBAtIYdR (b : Fin 8) (d : Byte) (r : Reg8) (s : State) : Outcome :=
  .next ((s.modifyAtCopy (s.ea .iy d) r fun v => resetBit v b).tick 23)

end Sys2Proof.Machine
end

