-- ==== Sys2Proof/Machine/Control.lean ====
section
/-! DEFINITION. The meanings of the jumps, calls, returns and restarts (48_control.md). The second
summand of a conditional form's cycles is its taken extra (R730). -/

namespace Sys2Proof.Machine

/-- `PC <- PC + sext_16(e)` (R423). -/
def State.jumpRel (s : State) (e : Byte) : State := s.setPC (s.cpu.pc + sext16 e)

/-- `Push(PC); PC <- w` (R428). -/
def State.call (s : State) (w : Word) : State := (s.push s.cpu.pc).setPC w

/-- `PC <- Pop()` (R430). -/
def State.popPC (s : State) : State := s.afterPop.setPC s.popWord

/-- `JP nn` (R420). -/
def execJpNN (nn : Word) (s : State) : Outcome := .next ((s.setPC nn).tick 10)

/-- `JP cc,nn` (R422): the taken extra is 0. -/
def execJpCCNN (cc : Cond) (nn : Word) (s : State) : Outcome :=
  .next (if condHolds cc s.cpu.f then (s.setPC nn).tick (10 + 0) else s.tick 10)

/-- `JR e` (R423). -/
def execJrE (e : Byte) (s : State) : Outcome := .next ((s.jumpRel e).tick 12)

/-- `JR jcc,e` (R424). -/
def execJrJCCE (jcc : JCond) (e : Byte) (s : State) : Outcome :=
  .next (if jcondHolds jcc s.cpu.f then (s.jumpRel e).tick (7 + 5) else s.tick 7)

/-- `JP (HL)` (R425). -/
def execJpHL (s : State) : Outcome := .next ((s.setPC s.hl).tick 4)

/-- `JP (IX)` (R426). -/
def execJpIX (s : State) : Outcome := .next ((s.setPC (s.idx .ix)).tick 8)

/-- `JP (IY)` (R426). -/
def execJpIY (s : State) : Outcome := .next ((s.setPC (s.idx .iy)).tick 8)

/-- `DJNZ e` (R427). -/
def execDjnzE (e : Byte) (s : State) : Outcome :=
  let s1 := s.setReg .b (s.cpu.b - 1)
  .next (if s1.cpu.b = 0 then s1.tick 8 else (s1.jumpRel e).tick (8 + 5))

/-- `CALL nn` (R428). -/
def execCallNN (nn : Word) (s : State) : Outcome := .next ((s.call nn).tick 17)

/-- `CALL cc,nn` (R429). -/
def execCallCCNN (cc : Cond) (nn : Word) (s : State) : Outcome :=
  .next (if condHolds cc s.cpu.f then (s.call nn).tick (10 + 7) else s.tick 10)

/-- `RET` (R430). -/
def execRet (s : State) : Outcome := .next (s.popPC.tick 10)

/-- `RET cc` (R431). -/
def execRetCC (cc : Cond) (s : State) : Outcome :=
  .next (if condHolds cc s.cpu.f then s.popPC.tick (5 + 6) else s.tick 5)

/-- `RETI` (R432). -/
def execReti (s : State) : Outcome := .next (s.leaveHandler.tick 14)

/-- `RETN` (R433). -/
def execRetn (s : State) : Outcome := .next (s.leaveHandler.tick 14)

/-- The `RETN` mirrors (R434). -/
def execRetnMirror (_y : Fin 8) (s : State) : Outcome := .next (s.leaveHandler.tick 14)

/-- `RST p`, `p = 8·t` (R435). -/
def execRstP (t : Fin 8) (s : State) : Outcome :=
  .next ((s.call (BitVec.ofNat 16 (8 * t.val))).tick 11)

end Sys2Proof.Machine
end

