-- ==== Sys2Proof/Machine/ExchangeBlock.lean ====
section
/-! DEFINITION. The meanings of the exchanges and of the block transfers and searches
(42_exchange_block.md). -/

namespace Sys2Proof.Machine

/-! ## Exchanges (R260 to R264) -/

/-- `EX DE,HL` (R260). -/
def execExDEHL (s : State) : Outcome :=
  .next ((s.setCpu ((s.cpu.setDE s.hl).setHL s.de)).tick 4)

/-- `EX AF,AF'` (R261). -/
def execExAFAF' (s : State) : Outcome :=
  let c := s.cpu
  .next ((s.setCpu { c with a := c.a', f := c.f', a' := c.a, f' := c.f }).tick 4)

/-- `EXX` (R262). -/
def execExx (s : State) : Outcome :=
  let c := s.cpu
  .next ((s.setCpu
    { c with
      b := c.b', c := c.c', d := c.d', e := c.e', h := c.h', l := c.l'
      b' := c.b, c' := c.c, d' := c.d, e' := c.e, h' := c.h, l' := c.l }).tick 4)

/-- `t <- MemRead(SP,2); MemWrite(SP,2,w)`: the state after both (R263, R264). -/
def State.swapTop (s : State) (w : Word) : State :=
  (s.afterReadWord s.cpu.sp).memWriteWord s.cpu.sp w

/-- `EX (SP),HL` (R263). -/
def execExAtSPHL (s : State) : Outcome :=
  let s1 := s.swapTop s.hl
  .next ((s1.setCpu (s1.cpu.setHL s.popWord)).tick 19)

/-- `EX (SP),IX` (R264). -/
def execExAtSPIX (s : State) : Outcome :=
  .next (((s.swapTop (s.idx .ix)).setIdx .ix s.popWord).tick 23)

/-- `EX (SP),IY` (R264). -/
def execExAtSPIY (s : State) : Outcome :=
  .next (((s.swapTop (s.idx .iy)).setIdx .iy s.popWord).tick 23)

/-! ## Block transfer and search (R265 to R273) -/

/-- The end of a repeating iteration: back to its own opcode and the taken extra, or on (R265). -/
def State.repeatIf (s : State) (again : Bool) : State :=
  if again then (s.setPC (s.cpu.pc - 2)).tick (16 + 5) else s.tick 16

/-- The body of R266 and R268: `step` is +1 or −1. -/
def State.ldBody (s : State) (step : Word) : State :=
  let v := s.readByte s.hl
  let bc := s.bc - 1
  let s1 := (s.afterRead s.hl).memWrite s.de v
  let s2 := s1.setCpu (((s1.cpu.setHL (s.hl + step)).setDE (s.de + step)).setBC bc)
  s2.setFlagsUndoc (ldiFlags s.flags (s.cpu.a + v) bc) maskF53

/-- `LDI` (R266). -/
def execLdi (s : State) : Outcome := .next ((s.ldBody 1).tick 16)

/-- `LDIR` (R267). -/
def execLdir (s : State) : Outcome :=
  let t := s.ldBody 1
  .next (t.repeatIf (t.bc != 0))

/-- `LDD` (R268). -/
def execLdd (s : State) : Outcome := .next ((s.ldBody (-1)).tick 16)

/-- `LDDR` (R269). -/
def execLddr (s : State) : Outcome :=
  let t := s.ldBody (-1)
  .next (t.repeatIf (t.bc != 0))

/-- The body of R270 and R272: `step` is +1 or −1. -/
def State.cpBody (s : State) (step : Word) : State :=
  let v := s.readByte s.hl
  let bc := s.bc - 1
  let s1 := s.afterRead s.hl
  let s2 := s1.setCpu ((s1.cpu.setHL (s.hl + step)).setBC bc)
  s2.setFlagsUndoc (cpiFlags s.flags s.cpu.a v bc) maskF53

/-- `CPI` (R270). -/
def execCpi (s : State) : Outcome := .next ((s.cpBody 1).tick 16)

/-- `CPIR` (R271). -/
def execCpir (s : State) : Outcome :=
  let t := s.cpBody 1
  .next (t.repeatIf (t.bc != 0 && s.cpu.a - s.readByte s.hl != 0))

/-- `CPD` (R272). -/
def execCpd (s : State) : Outcome := .next ((s.cpBody (-1)).tick 16)

/-- `CPDR` (R273). -/
def execCpdr (s : State) : Outcome :=
  let t := s.cpBody (-1)
  .next (t.repeatIf (t.bc != 0 && s.cpu.a - s.readByte s.hl != 0))

end Sys2Proof.Machine
end

