-- ==== Sys2Proof/Machine/GeneralCpu.lean ====
section
/-! DEFINITION. The meanings of the general-purpose and CPU control group (44_general_cpu.md). -/

namespace Sys2Proof.Machine

/-- `DAA` (R320). -/
def execDaa (s : State) : Outcome :=
  let r := daa s.cpu.a s.flags
  .next (((s.setReg .a r.1).setFlags r.2).tick 4)

/-- `CPL` (R321). -/
def execCpl (s : State) : Outcome :=
  .next (((s.setReg .a (~~~s.cpu.a)).setFlags (cplFlags s.flags (~~~s.cpu.a))).tick 4)

/-- `(A, f) <- Sub8(0, A, 0)` (R322). -/
def State.negA (s : State) : State :=
  let r := sub8 0 s.cpu.a false
  (s.setReg .a r.1).setFlags r.2

/-- `NEG` (R322). -/
def execNeg (s : State) : Outcome := .next (s.negA.tick 8)

/-- The `NEG` mirrors (R332): the opcode field that tells them apart has no effect. -/
def execNegMirror (_y : Fin 8) (s : State) : Outcome := .next (s.negA.tick 8)

/-- `CCF` (R323). -/
def execCcf (s : State) : Outcome :=
  .next ((s.setFlagsUndoc (ccfFlags s.flags s.cpu.a) maskF53).tick 4)

/-- `SCF` (R324). -/
def execScf (s : State) : Outcome :=
  .next ((s.setFlagsUndoc (scfFlags s.flags s.cpu.a) maskF53).tick 4)

/-- `NOP` (R325). -/
def execNop (s : State) : Outcome := .next (s.tick 4)

/-- `HALT` (R326). -/
def execHalt (s : State) : Outcome :=
  .next ((s.setCpu { s.cpu with pc := s.cpu.pc - 1, halted := true }).tick 4)

/-- `DI` (R327). -/
def execDi (s : State) : Outcome :=
  .next ((s.setCpu { s.cpu with iff1 := false, iff2 := false }).tick 4)

/-- `EI` (R328). -/
def execEi (s : State) : Outcome :=
  .next ((s.setCpu { s.cpu with iff1 := true, iff2 := true, eiShadow := true }).tick 4)

/-- `IM <- m`. -/
def State.setIM (s : State) (m : IntMode) : State := s.setCpu { s.cpu with im := m }

/-- `IM 0` (R329). -/
def execIm0 (s : State) : Outcome := .next ((s.setIM .im0).tick 8)

/-- `IM 1` (R330). -/
def execIm1 (s : State) : Outcome := .next ((s.setIM .im1).tick 8)

/-- `IM 2` (R331). -/
def execIm2 (s : State) : Outcome := .next ((s.setIM .im2).tick 8)

/-- The `IM 0` mirrors (R333). -/
def execIm0Mirror (_y : Fin 8) (s : State) : Outcome := .next ((s.setIM .im0).tick 8)

/-- The `IM 1` mirror (R333). -/
def execIm1Mirror (s : State) : Outcome := .next ((s.setIM .im1).tick 8)

/-- The `IM 2` mirror (R333). -/
def execIm2Mirror (s : State) : Outcome := .next ((s.setIM .im2).tick 8)

end Sys2Proof.Machine
end

