-- ==== Sys2Proof/Machine/Events.lean ====
section
/-! DEFINITION. The event queue (61_event_scheduler.md): insertion, cancellation, the first event
of a family, and the kind values of R566. The dispatch, which runs the actions, is in
Machine/Interrupts.lean. -/

namespace Sys2Proof.Machine

/-- Kind values (R566). -/
def kindDiskDone : Byte := 0x01
def kindDiskLostData : Byte := 0x02
def kindDiskFirstDrq : Byte := 0x04
def kindKickOff : Byte := 0x08
/-- The family mask of all disk events (R566). -/
def kindDisk : Byte := 0x07

/-- The queue order: ascending `(fireClock, seq)` (R560). -/
def Event.before (x y : Event) : Bool :=
  x.fireClock < y.fireClock || (x.fireClock == y.fireClock && x.seq < y.seq)

/-- Insertion in `(fireClock, seq)` order (R561). -/
def insertEvent (e : Event) : List Event → List Event
  | [] => [e]
  | x :: l => if e.before x then e :: x :: l else x :: insertEvent e l

/-- `schedule(kind, delta, action)` (R561). -/
def State.schedule (s : State) (kind : Byte) (delta : Nat) (action : EventAction) : State :=
  { s with
    events := insertEvent ⟨kind, s.clock + delta, s.seqNo, action⟩ s.events
    seqNo := s.seqNo + 1 }

/-- `cancel(mask)` (R563). -/
def State.cancel (s : State) (mask : Byte) : State :=
  { s with events := s.events.filter (fun e => e.kind &&& mask == 0) }

/-- `firstEvent(mask)` (R564); an observer only. -/
def State.firstEvent (s : State) (mask : Byte) : Option Event :=
  s.events.find? (fun e => e.kind &&& mask != 0)

end Sys2Proof.Machine
end

