-- ==== Sys2Proof/Machine/Wav.lean ====
section
/-! DEFINITION. The WAV source (R664): `ParseWav(bytes)`, a parser of little-endian RIFF chunks. -/

namespace Sys2Proof.Machine

/-- The fields of the `fmt ` chunk that R663 and R665 use. -/
structure WavFormat where
  format   : Nat
  channels : Nat
  rate     : Nat
  bits     : Nat
deriving DecidableEq, Repr

/-- A parsed WAV file. -/
structure WavFile where
  fmt     : WavFormat
  samples : List Word
deriving DecidableEq, Repr

/-- `"RIFF"`. -/
def tagRiff : List Byte := [0x52, 0x49, 0x46, 0x46]
/-- `"WAVE"`. -/
def tagWave : List Byte := [0x57, 0x41, 0x56, 0x45]
/-- `"fmt "`. -/
def tagFmt : List Byte := [0x66, 0x6D, 0x74, 0x20]
/-- `"data"`. -/
def tagData : List Byte := [0x64, 0x61, 0x74, 0x61]

/-- The little-endian field of `n` bytes at offset `k` of `bs`. -/
def leField (bs : List Byte) (k n : Nat) : Nat := leNat ((bs.drop k).take n)

/-- The body of a `fmt ` chunk; a body shorter than its fields gives none (log entry 14). -/
def parseFmt (body : List Byte) : Option WavFormat :=
  if body.length < 16 then none
  else some
    { format := leField body 0 2
      channels := leField body 2 2
      rate := leField body 4 4
      bits := leField body 14 2 }

/-- The floor(n / 2) samples of a `data` chunk body of n bytes: little-endian 16-bit words (R664). -/
def wavSamples : List Byte → List Word
  | low :: high :: bs => pair high low :: wavSamples bs
  | _ => []

/-- A chunk of the file (R664). -/
structure WavChunk where
  id   : List Byte
  body : List Byte
deriving DecidableEq, Repr

/-- All the chunks from `bs` to its end, of which there are at most `fuel`. A chunk that runs past
the end of the bytes, its header and its pad byte included, gives none, wherever it stands (R664;
log entry 14). -/
def wavChunks : Nat → List Byte → Option (List WavChunk)
  | _, [] => some []
  | 0, _ => none
  | fuel + 1, bs =>
    let n := leField bs 4 4
    let size := 8 + n + n % 2
    if bs.length < 8 ∨ bs.length < size then none
    else (wavChunks fuel (bs.drop size)).map (⟨bs.take 4, (bs.drop 8).take n⟩ :: ·)

/-- The first `fmt ` chunk (log entry 14), and the first `data` chunk after it (R664). -/
def wavFile (chunks : List WavChunk) : Option WavFile :=
  match chunks.dropWhile (fun c => c.id != tagFmt) with
  | [] => none
  | c :: rest =>
    (parseFmt c.body).bind fun f =>
      (rest.find? (fun d => d.id == tagData)).map fun d => ⟨f, wavSamples d.body⟩

/-- `ParseWav(bytes)`; none is `ok = false` (R664). -/
def parseWav (bs : List Byte) : Option WavFile :=
  if bs.take 4 = tagRiff ∧ (bs.drop 8).take 4 = tagWave then
    match (wavChunks bs.length (bs.drop 12)).bind wavFile with
    | none => none
    | some w => if w.fmt.rate = 0 then none else some w
  else none

end Sys2Proof.Machine
end

