-- ==== Sys2Proof/Machine/Cassette.lean ====
section
/-! DEFINITION. The cassette edge detector (63_cassette.md): classification, motor and open,
sample replay and edges, the kick-off, the byte port. -/

namespace Sys2Proof.Machine

/-- `Classify(s)` of a signed 16-bit sample (R661). -/
def classify (sample : Word) : Level :=
  if Config.cassetteThreshold < sample.toInt then .positive
  else if sample.toInt < -Config.cassetteThreshold then .negative
  else .neutral

/-- `CassetteOpen()` (R663). -/
def State.cassetteOpen (s : State) : Except Fault State :=
  match s.cas.source.bind parseWav with
  | none => .ok { s with cas := { s.cas with state := .fail } }
  | some w =>
    if w.fmt.format ≠ 1 ∨ w.fmt.channels ≠ 1 ∨ w.fmt.bits ≠ 16 then .error (s.fatal .badWav)
    else .ok
      { s with
        cas := { s.cas with
          state := .read
          motorOnClock := s.clock
          samplesRead := 0
          last := .neutral
          tape := ⟨w.fmt.rate, w.samples⟩ } }

/-- The kick-off scheduled at motor-on when a cassette interrupt is unmasked (R662). -/
def State.scheduleKickOff (s : State) : State :=
  if s.lat.irqMask &&& 0x03 = 0 then s
  else s.schedule kindKickOff Config.kickoffDelay .kickOff

/-- `CassetteMotor(on)` (R662). -/
def State.cassetteMotor (s : State) (on : Bool) : Except Fault State :=
  if on = s.cas.motor then .ok s
  else
    let s1 := { s with cas := { s.cas with motor := on } }.emit (.motorLight (-1) on)
    if on then
      (if s1.cas.state = .close then s1.cassetteOpen else .ok s1).map State.scheduleKickOff
    else .ok { s1 with cas := { s1.cas with state := .close } }

/-- `Edge(v)` (R666). -/
def State.cassetteEdge (s : State) (v : Level) : State :=
  let s1 :=
    if v = s.cas.last then s
    else
      match v with
      | .positive => { s with cas := { s.cas with flipflop := true } }.raiseIrq 0x01
      | .negative => { s with cas := { s.cas with flipflop := true } }.raiseIrq 0x02
      | .neutral => s
  { s1 with
    cas := { s1.cas with
      last := v
      lastNonNeutral := if v = .neutral then s1.cas.lastNonNeutral else v } }

/-- One sample consumed (the body of the loop of R665). -/
def State.cassetteSample (s : State) (sample : Word) : State :=
  let s1 := s.cassetteEdge (classify sample)
  { s1 with cas := { s1.cas with samplesRead := s1.cas.samplesRead + 1 } }

/-- How many samples should have been read by now (R665). -/
def State.cassetteTarget (s : State) : Nat :=
  (s.clock - s.cas.motorOnClock) * s.cas.tape.rate / Config.cpuHz

/-- `CassetteUpdate()` with the motor test of R530 (R665): the samples from `samplesRead` up to the
target are consumed in order. -/
def State.cassetteUpdate (s : State) : State :=
  if s.cas.motor ∧ s.cas.state = .read then
    ((s.cas.tape.samples.drop s.cas.samplesRead).take
      (s.cassetteTarget - s.cas.samplesRead)).foldl State.cassetteSample s
  else s

/-- `KickOffAction()` (R667). -/
def State.kickOffAction (s : State) : State :=
  if s.cas.motor then s.raiseIrq 0x03 else s

/-- `CassetteBits()` (R670). -/
def Cassette.bits (c : Cassette) : Byte :=
  (if c.flipflop then 0x80 else 0x00) ||| (if c.lastNonNeutral = .positive then 0x01 else 0x00)

/-- `CassetteOut(v)` (R671). -/
def State.cassetteOut (s : State) : State := { s with cas := { s.cas with flipflop := false } }

end Sys2Proof.Machine
end

