-- ==== Sys2Proof/Machine/DiskImage.lean ====
section
/-! DEFINITION. Disk images (62_floppy_controller.md R620 to R625): JV3 descriptors, the JV3 load,
and the recognition of an image at mount. -/

namespace Sys2Proof.Machine

/-- The sentinel descriptor, and what a table index outside the table gives (R620). -/
def SectorId.sentinel : SectorId := ⟨0xFF, 0xFF, 0xFF⟩

/-- `side(e)` (R612, R621). -/
def SectorId.side (e : SectorId) : Bool := e.flags.getLsbD 4

/-- `density(e)`: true is double (R612, R621). -/
def SectorId.density (e : SectorId) : Bool := e.flags.getLsbD 7

/-- `crc(i)` (R621). -/
def SectorId.crc (e : SectorId) : Bool := e.flags.getLsbD 3

/-- `deleted(i)`: data-address-mark code 3 on a single-density sector, 1 on a double-density one
(R621). -/
def SectorId.deleted (e : SectorId) : Bool :=
  e.flags.extractLsb' 5 2 == if e.density then 1 else 3

/-- Track value 0xFF marks a free sector (R621). -/
def SectorId.free (e : SectorId) : Bool := e.track == 0xFF

/-- The size code `flags[1:0]`. -/
def SectorId.sizeCode (e : SectorId) : Nat := (e.flags.extractLsb' 0 2).toNat

/-- `SizeOf(track, flags)` (R622): used 256, 128, 1024, 512; free 512, 1024, 128, 256. -/
def SectorId.size (e : SectorId) : Nat := 128 <<< (e.sizeCode ^^^ if e.free then 2 else 1)

/-- Descriptor `i` of a JV3 disk. -/
def Jv3Tables.id (t : Jv3Tables) (i : Nat) : SectorId := t.ids.getD i .sentinel

/-- N: the number of descriptors before the sentinel (R620). -/
def Jv3Tables.count (t : Jv3Tables) : Nat := t.ids.length - 1

/-- The three bytes of a descriptor slot; a byte past the end of the image reads as 0xFF (R623). -/
def slotAt (img : List Byte) (pos : Nat) : SectorId :=
  ⟨img.getD pos 0xFF, img.getD (pos + 1) 0xFF, img.getD (pos + 2) 0xFF⟩

/-- What a block of JV3 descriptors has given so far: the descriptors with their offsets, and the
offset of the next sector. -/
abbrev Jv3Scan := List (SectorId × Nat) × Nat

/-- One slot of a block (the body of the inner loop of R623): an unused slot has no data. -/
def jv3Slot (e : SectorId) (acc : Jv3Scan) : Jv3Scan :=
  if e = .sentinel then acc else (acc.1 ++ [(e, acc.2)], acc.2 + e.size)

/-- The slots of the block at `base` (R623). -/
def jv3Block (img : List Byte) (base slots : Nat) (found : List (SectorId × Nat)) : Jv3Scan :=
  (List.range slots).foldl (fun acc k => jv3Slot (slotAt img (base + 3 * k)) acc)
    (found, base + Config.jv3SecStart)

/-- The two blocks (R623): the second exists iff the image extends past the first. -/
def jv3Blocks (img : List Byte) (slots : Nat) : Jv3Scan :=
  let first := jv3Block img 0 slots []
  if img.length ≤ first.2 then first else jv3Block img first.2 slots first.1

/-- The sort order of R620: (track, side, original index) ascending. -/
def jv3Before (ids : List SectorId) (i j : Nat) : Bool :=
  let x := ids.getD i .sentinel
  let y := ids.getD j .sentinel
  x.track.toNat < y.track.toNat ||
    (x.track == y.track && (x.side.toNat < y.side.toNat || (x.side == y.side && i < j)))

/-- Insertion into a list sorted by `before`. -/
def insertBy (before : Nat → Nat → Bool) (i : Nat) : List Nat → List Nat
  | [] => [i]
  | j :: l => if before i j then i :: j :: l else j :: insertBy before i l

/-- Sorting by insertion. -/
def sortBy (before : Nat → Nat → Bool) : List Nat → List Nat
  | [] => []
  | i :: l => insertBy before i (sortBy before l)

/-- The tables of R620 from the descriptors and offsets of a scan (the end of R623). -/
def jv3Tables (scan : Jv3Scan) : Jv3Tables :=
  let ids := scan.1.map Prod.fst ++ [.sentinel]
  let n := scan.1.length
  let sorted := sortBy (jv3Before ids) (List.range (n + 1))
  let at' (i : Nat) : SectorId := ids.getD i .sentinel
  let start (t : Nat) (side : Bool) : Option Nat :=
    sorted.findIdx? (fun i => (at' i).track.toNat == t && (at' i).side == side)
  { ids := ids
    offset := scan.1.map Prod.snd ++ [scan.2]
    sortedId := sorted
    trackStart := (List.range Config.maxTracks).map (fun t => (start t false, start t true))
    freeHead := (List.range 4).map (fun c =>
      sorted.findIdx? (fun i => (at' i).free && decide (i < n) && (at' i).sizeCode == c)) }

/-- `Jv3Load(img)` (R623). -/
def jv3Load (img : List Byte) : Jv3Tables := jv3Tables (jv3Blocks img Config.jv3SecsPerBlk)

/-- The drive with `img` in it, or none when its length is not recognised (R625). -/
def Drive.mount (dr : Drive) (img : List Byte) : Option Drive :=
  if img.length = Config.jv1Length then some { dr with kind := .jv1, image := img }
  else if img.length ∈ Config.jv3Lengths then
    some { dr with kind := .jv3, image := img, jv3 := jv3Load img }
  else none

/-- `Unmount(d)` (R625). -/
def Drive.unmount (dr : Drive) : Drive := { dr with kind := .none, image := [] }

end Sys2Proof.Machine
end

