-- ==== Sys2Proof/Machine/Floppy.lean ====
section
/-! DEFINITION. The floppy disk controller (62_floppy_controller.md R581 to R612, R630): drive
select and motor, status and data reads, commands, sector search, the disk events' actions. -/

namespace Sys2Proof.Machine

/-! ## Layouts (R581, R582) -/

def stBusy : Byte := 0x01
def stIndex : Byte := 0x02
def stDrq : Byte := 0x02
def stTrack0 : Byte := 0x04
def stLostData : Byte := 0x04
def stCrcErr : Byte := 0x08
def stSeekErr : Byte := 0x10
def stNotFound : Byte := 0x10
def stHeadLoaded : Byte := 0x20
def stRecType : Byte := 0x20
def stWriteProt : Byte := 0x40

/-- Command types (R582). -/
inductive CommandType where
  | typeI
  | typeII
  | typeIII
  | typeIV
deriving DecidableEq, Repr

/-- `type(c)` (R582), by `c[7:4]`. -/
def commandType (c : Byte) : CommandType :=
  match (c.extractLsb' 4 4).toNat with
  | 0 | 1 | 2 | 3 | 4 | 5 | 6 | 7 => .typeI
  | 8 | 9 | 10 | 11 => .typeII
  | 13 => .typeIV
  | _ => .typeIII

/-! ## The current drive (R580) and small updates -/

/-- `cur`: the drive all port operations act on. -/
def State.cur (s : State) : Drive := s.drv[s.fdc.drive]

/-- `cur.phys <- p`. -/
def State.setPhys (s : State) (p : Nat) : State :=
  { s with drv := s.drv.set s.fdc.drive { s.cur with phys := p } }

/-- `fdc.status <- v`. -/
def State.setStatus (s : State) (v : Byte) : State := { s with fdc := { s.fdc with status := v } }

/-- `fdc.status |= v`. -/
def State.orStatus (s : State) (v : Byte) : State := s.setStatus (s.fdc.status ||| v)

/-! ## Drive select, motor and status read (R588 to R590, R630) -/

/-- The index of the lowest set bit of `v[3:0]` (R588). -/
def selectedDrive (v : Byte) : Option (Fin 4) :=
  (List.finRange 4).find? (fun d => v.getLsbD d.val)

/-- `FdcSelect(v)` (R583, R588). -/
def State.fdcSelect (s : State) (v : Byte) : State :=
  let s1 := s.clearNmi 0x40
  let s2 := { s1 with fdc := { s1.fdc with side := v.getLsbD 4, density := v.getLsbD 7 } }
  match selectedDrive v with
  | none => s2
  | some new =>
    let s3 :=
      if s2.fdc.motorOn ∧ new ≠ s2.fdc.drive then s2.emit (.motorLight s2.fdc.drive.val false)
      else s2
    let s4 :=
      if !s3.fdc.motorOn ∨ new ≠ s3.fdc.drive then s3.emit (.motorLight new.val true) else s3
    { s4 with
      fdc := { s4.fdc with
        drive := new, motorOn := true, motorTimeout := s4.clock + Config.motorTimeout } }

/-- `CheckDiskMotorOff()` (R589). -/
def State.checkDiskMotorOff (s : State) : State :=
  if s.fdc.motorOn ∧ s.fdc.motorTimeout ≤ s.clock then
    ({ s with fdc := { s.fdc with motorOn := false } }.emit
      (.motorLight s.fdc.drive.val false)).raiseNmi 0x40
  else s

/-- `IndexHole()` (R630). -/
def State.indexHole (s : State) : Bool := decide (s.clock % Config.clocksPerRev < Config.indexWidth)

/-- The state after `FdcStatusRead()` (R590). -/
def State.afterStatusRead (s : State) : State := s.checkDiskMotorOff.clearNmi 0x80

/-- The Type I / IV status view of the state after the motor check (R581, R590). -/
def State.typeIView (s : State) : Byte :=
  (s.fdc.status &&& ~~~(stIndex ||| stWriteProt)) |||
    (if s.fdc.motorOn && s.cur.kind != .none && s.indexHole then stIndex else 0x00) |||
    (if s.cur.kind != .none then stWriteProt else 0x00)

/-- The value of `FdcStatusRead()` (R590). -/
def State.statusRead (s : State) : Byte :=
  let s1 := s.afterStatusRead
  match commandType s1.fdc.command with
  | .typeI | .typeIV => s1.typeIView
  | .typeII | .typeIII => s1.fdc.status

/-! ## Sector search (R610 to R612) -/

/-- `Jv1Search(sector, reqSide)`; `none` is −1 in argument and result (R611). -/
def State.jv1Search (s : State) (sector : Option Nat) (reqSide : Option Bool) : Option Nat :=
  if s.fdc.side ∨ reqSide = some true then none
  else if s.cur.phys ≠ s.fdc.track.toNat then none
  else if 35 ≤ s.fdc.track.toNat then none
  else if 10 ≤ sector.getD 0 then none
  else some (10 * s.fdc.track.toNat + sector.getD 0)

/-- The walk of R612 along the rest of the sorted index: it stops at the first descriptor of another
track or side. -/
def jv3Walk (t : Jv3Tables) (p : Nat) (side density : Bool) (sector : Option Nat) :
    List Nat → Option Nat
  | [] => none
  | i :: rest =>
    let e := t.id i
    if e.track.toNat ≠ p ∨ e.side ≠ side then none
    else
      match sector with
      | none => some i
      | some n =>
        if e.sector.toNat = n ∧ e.density = density then some i
        else jv3Walk t p side density sector rest

/-- `trackStart[p][side]` (R620). -/
def Jv3Tables.start (t : Jv3Tables) (p : Nat) (side : Bool) : Option Nat :=
  let e := t.trackStart.getD p (none, none)
  if side then e.2 else e.1

/-- `Jv3Search(sector, reqSide)` (R612). -/
def State.jv3Search (s : State) (sector : Option Nat) (reqSide : Option Bool) : Option Nat :=
  let t := s.cur.jv3
  if reqSide = some (!s.fdc.side) then none
  else if Config.maxTracks ≤ s.cur.phys then none
  else
    match t.start s.cur.phys s.fdc.side with
    | none => none
    | some k =>
      jv3Walk t s.cur.phys s.fdc.side s.fdc.density sector ((t.sortedId.take t.count).drop k)

/-- The result of `SearchSector(sector, reqSide)` (R610). -/
def State.searchSector (s : State) (sector : Option Nat) (reqSide : Option Bool) : Option Nat :=
  match s.cur.kind with
  | .none => none
  | .jv1 => s.jv1Search sector reqSide
  | .jv3 => s.jv3Search sector reqSide

/-- The state after `SearchSector` with result `r`: a failure sets NotFound (R610). -/
def State.afterSearch (s : State) (r : Option Nat) : State :=
  match r with
  | none => s.orStatus stNotFound
  | some _ => s

/-! ## Commands (R592 to R604) -/

/-- `clamp(p, 0, MAXTRACKS − 1)` (R594, R595). -/
def clampTrack (p : Int) : Nat := (min p (Config.maxTracks - 1)).toNat

/-- The direction as +1 or −1. -/
def StepDir.toInt : StepDir → Int
  | .inward => 1
  | .outward => -1

/-- The direction as an 8-bit step of the track register. -/
def StepDir.toByte : StepDir → Byte
  | .inward => 1
  | .outward => -1

/-- `fdc.stepDir <- dir`. -/
def State.setStepDir (s : State) (dir : StepDir) : State :=
  { s with fdc := { s.fdc with stepDir := dir } }

/-- `Restore()` (R594). -/
def State.restore (s : State) : State :=
  let s1 := s.setPhys 0
  { s1 with fdc := { s1.fdc with track := 0, stepDir := .outward } }

/-- `Seek()` (R594). -/
def State.seek (s : State) : State :=
  let t := s.fdc.data
  let old := s.fdc.track
  let s1 :=
    if old.toNat < t.toNat then s.setStepDir .inward
    else if t.toNat < old.toNat then s.setStepDir .outward
    else s
  let s2 := s1.setPhys (clampTrack ((s1.cur.phys : Int) + t.toNat - old.toNat))
  { s2 with fdc := { s2.fdc with track := t } }

/-- `StepBy(dir, u)` (R595). -/
def State.stepBy (s : State) (dir : StepDir) (u : Bool) : State :=
  let s1 := s.setPhys (clampTrack ((s.cur.phys : Int) + dir.toInt))
  if u then { s1 with fdc := { s1.fdc with track := s1.fdc.track + dir.toByte } } else s1

/-- `Verify()` (R597). -/
def State.verify (s : State) : State :=
  if s.cur.kind ≠ .jv3 then
    if s.fdc.track.toNat ≠ s.cur.phys then s.orStatus stSeekErr
    else if s.cur.kind = .jv1 ∧ s.fdc.density then s.orStatus stNotFound
    else s
  else
    let r := s.searchSector none none
    let s1 := s.afterSearch r
    match r with
    | none => s1
    | some i => if (s1.cur.jv3.id i).crc then s1.orStatus stCrcErr else s1

/-- The head movement of a Type I command (the case of R593). -/
def State.typeIMove (s : State) (c : Byte) : State :=
  match (c.extractLsb' 4 4).toNat with
  | 0 => s.restore
  | 1 => s.seek
  | 2 | 3 => s.stepBy s.fdc.stepDir (c.getLsbD 4)
  | 4 | 5 => (s.setStepDir .inward).stepBy .inward (c.getLsbD 4)
  | _ => (s.setStepDir .outward).stepBy .outward (c.getLsbD 4)

/-- `TypeI(c)` (R593). -/
def State.typeI (s : State) (c : Byte) : State :=
  let s1 := s.typeIMove c
  let s2 := s1.setStatus
    (stBusy ||| (if c.getLsbD 3 then stHeadLoaded else 0x00) |||
      (if s1.cur.phys = 0 then stTrack0 else 0x00))
  let s3 := if c.getLsbD 2 then s2.verify else s2
  s3.schedule kindDiskDone Config.type1Delay (.diskDone stBusy)

/-- `size(i)` and `offset(i)` (R598). -/
def Drive.sectorSize (dr : Drive) (i : Nat) : Nat :=
  match dr.kind with
  | .jv3 => (dr.jv3.id i).size
  | .jv1 | .none => 256

/-- `offset(i)` (R598, R620, R624). -/
def Drive.sectorOffset (dr : Drive) (i : Nat) : Nat :=
  match dr.kind with
  | .jv3 => dr.jv3.offset.getD i 0
  | .jv1 | .none => 256 * i

/-- The status of a found sector: `BUSY`, the CRC error and the record type (R598). -/
def Drive.foundStatus (dr : Drive) (i : Nat) : Byte :=
  match dr.kind with
  | .jv3 =>
    stBusy ||| (if (dr.jv3.id i).crc then stCrcErr else 0x00) |||
      (if (dr.jv3.id i).deleted then stRecType else 0x00)
  | .jv1 | .none => stBusy

/-- `ReadSector(c)` (R598). -/
def State.readSector (s : State) (c : Byte) : State :=
  let reqSide := if c.getLsbD 1 then some (c.getLsbD 3) else none
  let s1 := s.setStatus 0x00
  let r := s1.searchSector (some s1.fdc.sector.toNat) reqSide
  let s2 := s1.afterSearch r
  match r with
  | none => s2.schedule kindDiskDone Config.notFoundDelay (.diskDone 0x00)
  | some i =>
    let s3 := s2.setStatus (s2.cur.foundStatus i)
    let s4 := { s3 with
      fdc := { s3.fdc with
        byteCount := s3.cur.sectorSize i, dataOffset := s3.cur.sectorOffset i } }
    s4.schedule kindDiskFirstDrq Config.drqDelay .firstDrq

/-- `ForceInterrupt(c)` (R604). -/
def State.forceInterrupt (s : State) (c : Byte) : State :=
  let s1 := (s.cancel kindDisk).setStatus 0x00
  let s2 := { s1 with fdc := { s1.fdc with byteCount := 0 } }
  if c.getLsbD 3 then s2.raiseNmi 0x80 else s2.clearNmi 0x80

/-- `FdcCommandWrite(c)` (R592). -/
def State.fdcCommand (s : State) (c : Byte) : Except Fault State :=
  let s1 := s.clearNmi 0x80
  let s2 := { s1 with fdc := { s1.fdc with command := c } }
  match (c.extractLsb' 4 4).toNat with
  | 0 | 1 | 2 | 3 | 4 | 5 | 6 | 7 => .ok ((s2.cancel kindDisk).typeI c)
  | 8 | 9 => .ok ((s2.cancel kindDisk).readSector c)
  | 13 => .ok (s2.forceInterrupt c)
  | _ => .error (s2.fatal (.fdcUnsupportedCommand c))

/-! ## Data transfer (R606) -/

/-- The condition under which a data read consumes a byte (R606). -/
def State.dataReady (s : State) : Bool :=
  commandType s.fdc.command == .typeII && s.fdc.status &&& stDrq != 0 && 0 < s.fdc.byteCount

/-- The state after `FdcDataRead()` (R606). -/
def State.afterDataRead (s : State) : State :=
  if s.dataReady then
    let s1 := { s with
      fdc := { s.fdc with
        data := s.cur.image.getD s.fdc.dataOffset 0xE5
        dataOffset := s.fdc.dataOffset + 1
        byteCount := s.fdc.byteCount - 1 } }
    if s1.fdc.byteCount = 0 then
      ((s1.setStatus (s1.fdc.status &&& ~~~stDrq)).cancel kindDiskLostData).schedule
        kindDiskDone Config.doneDelay (.diskDone stBusy)
    else s1
  else s

/-- The value of `FdcDataRead()` (R606). -/
def State.dataRead (s : State) : Byte := s.afterDataRead.fdc.data

/-! ## Actions of the disk events (R599 to R601) -/

/-- `FirstDrqAction()` (R599). -/
def State.firstDrqAction (s : State) : State :=
  (s.orStatus stDrq).schedule kindDiskLostData Config.lostDataDelay .lostData

/-- `LostDataAction()` (R600). -/
def State.lostDataAction (s : State) : State :=
  let s1 := s.setStatus ((s.fdc.status ||| stLostData) &&& ~~~(stBusy ||| stDrq))
  { s1 with fdc := { s1.fdc with byteCount := 0 } }.raiseNmi 0x80

/-- `DiskDoneAction(bits)` (R601). -/
def State.diskDoneAction (s : State) (bits : Byte) : State :=
  (s.setStatus (s.fdc.status &&& ~~~bits)).raiseNmi 0x80

end Sys2Proof.Machine
end

