-- ==== Sys2Proof/Machine/Ports.lean ====
section
/-! DEFINITION. The port router (20_memory.md R100 to R110). -/

namespace Sys2Proof.Machine

/-- The device a port address selects: the router decodes the low byte (R100, R101). -/
inductive Port where
  | irq          -- E0
  | nmi          -- E4
  | uart         -- E8..EB
  | mode         -- EC..EF
  | fdcStatus    -- F0
  | fdcTrack     -- F1
  | fdcSector    -- F2
  | fdcData      -- F3
  | fdcSelect    -- F4..F7
  | printer      -- F8..FB
  | cassette     -- FC..FF
  | unknown
deriving DecidableEq, Repr

/-- The port map (R100, R101). -/
def decodePort (p : Byte) : Port :=
  let n := p.toNat
  if n = 0xE0 then .irq
  else if n = 0xE4 then .nmi
  else if 0xE8 ≤ n ∧ n ≤ 0xEB then .uart
  else if 0xEC ≤ n ∧ n ≤ 0xEF then .mode
  else if n = 0xF0 then .fdcStatus
  else if n = 0xF1 then .fdcTrack
  else if n = 0xF2 then .fdcSector
  else if n = 0xF3 then .fdcData
  else if 0xF4 ≤ n ∧ n ≤ 0xF7 then .fdcSelect
  else if 0xF8 ≤ n ∧ n ≤ 0xFB then .printer
  else if 0xFC ≤ n then .cassette
  else .unknown

/-- `UnknownPortRead(p)` (R110). -/
def State.unknownPortRead (s : State) (p : Byte) : Except Fault (Byte × State) :=
  match s.cfg.unknownPorts with
  | .fatal => .error (s.fatal (.unknownPortIn p))
  | .float => .ok (0xFF, s)

/-- `UnknownPortWrite(p)` (R110). -/
def State.unknownPortWrite (s : State) (p : Byte) : Except Fault State :=
  match s.cfg.unknownPorts with
  | .fatal => .error (s.fatal (.unknownPortOut p))
  | .float => .ok s

/-- `IoRead(port)` (R100): the byte read and the state after the read. A read of the select ports
F4–F7 is an unknown-port read (R107). -/
def State.ioRead (s : State) (port : Word) : Except Fault (Byte × State) :=
  let p := lo port
  match decodePort p with
  | .irq => .ok (~~~s.lat.irqLatch, s)
  | .nmi => .ok (~~~s.lat.nmiLatch, s)
  | .uart => .ok (0xFF, s)
  | .mode => .ok (0xFF, s.clearIrq 0x04)
  | .fdcStatus => .ok (s.statusRead, s.afterStatusRead)
  | .fdcTrack => .ok (s.fdc.track, s)
  | .fdcSector => .ok (s.fdc.sector, s)
  | .fdcData => .ok (s.dataRead, s.afterDataRead)
  | .printer => .ok (0x30, s)
  | .cassette => .ok ((s.modeImage &&& 0x7E) ||| s.cas.bits, s.clearIrq 0x03)
  | .fdcSelect | .unknown => s.unknownPortRead p

/-- `ModeWrite(v)` (R105). -/
def State.modeWrite (s : State) (v : Byte) : Except Fault State :=
  let old := s.modeImage
  ({ s with modeImage := v }.cassetteMotor (v.getLsbD 1)).map fun t =>
    if v.getLsbD 2 = old.getLsbD 2 then t else t.emit (.expanded (v.getLsbD 2))

/-- `IoWrite(port, v)` (R101). -/
def State.ioWrite (s : State) (port : Word) (v : Byte) : Except Fault State :=
  let p := lo port
  match decodePort p with
  | .irq => .ok { s with lat := { s.lat with irqMask := v } }
  | .nmi => .ok { s with lat := { s.lat with nmiMask := v ||| 0x20 }.nmiUpdate }
  | .uart => .ok s
  | .mode => s.modeWrite v
  | .fdcStatus => s.fdcCommand v
  | .fdcTrack => .ok { s with fdc := { s.fdc with track := v } }
  | .fdcSector => .ok { s with fdc := { s.fdc with sector := v } }
  | .fdcData => .ok { s with fdc := { s.fdc with data := v } }
  | .fdcSelect => .ok (s.fdcSelect v)
  | .printer => .ok s
  | .cassette => .ok (if v &&& 0x20 = 0 then s.cassetteOut else s)
  | .unknown => s.unknownPortWrite p

end Sys2Proof.Machine
end

