-- ==== Sys2Proof/Machine/InputOutput.lean ====
section
/-! DEFINITION. The meanings of the input and output group (49_io.md). Each goes through
`IoRead`/`IoWrite`; the fault those can raise (an unknown port, a refused disk command, a bad tape)
ends the instruction there, with what it did before (R500). -/

namespace Sys2Proof.Machine

/-- `IN A,(n)` (R460). -/
def execInAAtN (n : Byte) (s : State) : Outcome :=
  finish ((s.ioRead (pair s.cpu.a n)).map fun x => (x.2.setReg .a x.1).tick 11)

/-- `IN r,(C)` (R461). -/
def execInRAtC (r : Reg8) (s : State) : Outcome :=
  finish ((s.ioRead s.bc).map fun x =>
    ((x.2.setReg r x.1).setFlags (inFlags s.flags x.1)).tick 12)

/-- `IN F,(C)` (R462): no register is written. -/
def execInFAtC (s : State) : Outcome :=
  finish ((s.ioRead s.bc).map fun x => (x.2.setFlags (inFlags s.flags x.1)).tick 12)

/-- `OUT (n),A` (R467). -/
def execOutAtNA (n : Byte) (s : State) : Outcome :=
  finish ((s.ioWrite (pair s.cpu.a n) s.cpu.a).map fun t => t.tick 11)

/-- `OUT (C),r` (R468). -/
def execOutAtCR (r : Reg8) (s : State) : Outcome :=
  finish ((s.ioWrite s.bc (s.reg r)).map fun t => t.tick 12)

/-- `OUT (C),0` (R469). -/
def execOutAtC0 (s : State) : Outcome :=
  finish ((s.ioWrite s.bc 0x00).map fun t => t.tick 12)

/-! ## Block input and output (R463 to R466, R470 to R474) -/

/-- The body of R463 and R465: `step` is +1 or −1 for HL, `c1` is C + 1 or C − 1. -/
def State.inBody (s : State) (step : Word) (c1 : Byte) : Except Fault State :=
  (s.ioRead s.bc).map fun x =>
    let v := x.1
    let b := s.cpu.b - 1
    let s1 := x.2.memWrite s.hl v
    let s2 := s1.setCpu { s1.cpu.setHL (s.hl + step) with b := b }
    s2.setFlagsUndoc (blockIoFlags v b (v.toNat + c1.toNat)) maskBlockIo

/-- The body of R470 and R472: B is decremented before the port is written, and L in the flags is
the new L (R474). -/
def State.outBody (s : State) (step : Word) : Except Fault State :=
  let s1 := s.setReg .b (s.cpu.b - 1)
  let v := s1.readByte s1.hl
  let hl := s.hl + step
  ((s1.afterRead s1.hl).ioWrite s1.bc v).map fun t =>
    (t.setCpu (t.cpu.setHL hl)).setFlagsUndoc
      (blockIoFlags v s1.cpu.b (v.toNat + (lo hl).toNat)) maskBlockIo

/-- A repeating iteration goes on while B is not 0 (R464). -/
def State.repeatB (s : State) : State := s.repeatIf (s.cpu.b != 0)

/-- `INI` (R463). -/
def execIni (s : State) : Outcome := finish ((s.inBody 1 (s.cpu.c + 1)).map fun t => t.tick 16)

/-- `INIR` (R464). -/
def execInir (s : State) : Outcome := finish ((s.inBody 1 (s.cpu.c + 1)).map State.repeatB)

/-- `IND` (R465). -/
def execInd (s : State) : Outcome := finish ((s.inBody (-1) (s.cpu.c - 1)).map fun t => t.tick 16)

/-- `INDR` (R466). -/
def execIndr (s : State) : Outcome := finish ((s.inBody (-1) (s.cpu.c - 1)).map State.repeatB)

/-- `OUTI` (R470). -/
def execOuti (s : State) : Outcome := finish ((s.outBody 1).map fun t => t.tick 16)

/-- `OTIR` (R471). -/
def execOtir (s : State) : Outcome := finish ((s.outBody 1).map State.repeatB)

/-- `OUTD` (R472). -/
def execOutd (s : State) : Outcome := finish ((s.outBody (-1)).map fun t => t.tick 16)

/-- `OTDR` (R473). -/
def execOtdr (s : State) : Outcome := finish ((s.outBody (-1)).map State.repeatB)

end Sys2Proof.Machine
end

