-- ==== Sys2Proof/Machine/Load16.lean ====
section
/-! DEFINITION. The meanings of the 16-bit loads, PUSH and POP (41_load16.md). -/

namespace Sys2Proof.Machine

/-- `LD dd,nn` (R230). -/
def execLdDDNN (p : Pair) (nn : Word) (s : State) : Outcome :=
  .next ((s.setCpu (s.cpu.setPair p nn)).tick 10)

/-- `dd <- MemRead(a,2)`. -/
def State.loadPair (s : State) (p : Pair) (a : Word) : State :=
  let s1 := s.afterReadWord a
  s1.setCpu (s1.cpu.setPair p (s.readWord a))

/-- `LD HL,(nn)` (R232). -/
def execLdHLAtNN (nn : Word) (s : State) : Outcome := .next ((s.loadPair .hl nn).tick 16)

/-- `LD dd,(nn)` (R233). -/
def execLdDDAtNN (p : Pair) (nn : Word) (s : State) : Outcome := .next ((s.loadPair p nn).tick 20)

/-- `LD (nn),HL` (R235). -/
def execLdAtNNHL (nn : Word) (s : State) : Outcome := .next ((s.memWriteWord nn s.hl).tick 16)

/-- `LD (nn),dd` (R236). -/
def execLdAtNNDD (p : Pair) (nn : Word) (s : State) : Outcome :=
  .next ((s.memWriteWord nn (s.cpu.getPair p)).tick 20)

/-- `LD SP,HL` (R238). -/
def execLdSPHL (s : State) : Outcome := .next ((s.setSP s.hl).tick 6)

/-- `PUSH qq` (R240). -/
def execPushQQ (q : StackPair) (s : State) : Outcome :=
  .next ((s.push (s.cpu.getStackPair q)).tick 11)

/-- `POP qq` (R242); `POP AF` writes all of F. -/
def execPopQQ (q : StackPair) (s : State) : Outcome :=
  let s1 := s.afterPop
  .next ((s1.setCpu (s1.cpu.setStackPair q s.popWord)).tick 10)

/-! ## IX (R231, R234, R237, R239, R241, R243) -/

/-- `LD IX,nn` (R231). -/
def execLdIXNN (nn : Word) (s : State) : Outcome := .next ((s.setIdx .ix nn).tick 14)

/-- `LD IX,(nn)` (R234). -/
def execLdIXAtNN (nn : Word) (s : State) : Outcome :=
  .next (((s.afterReadWord nn).setIdx .ix (s.readWord nn)).tick 20)

/-- `LD (nn),IX` (R237). -/
def execLdAtNNIX (nn : Word) (s : State) : Outcome :=
  .next ((s.memWriteWord nn (s.idx .ix)).tick 20)

/-- `LD SP,IX` (R239). -/
def execLdSPIX (s : State) : Outcome := .next ((s.setSP (s.idx .ix)).tick 10)

/-- `PUSH IX` (R241). -/
def execPushIX (s : State) : Outcome := .next ((s.push (s.idx .ix)).tick 15)

/-- `POP IX` (R243). -/
def execPopIX (s : State) : Outcome := .next ((s.afterPop.setIdx .ix s.popWord).tick 14)

/-! ## IY (R231, R234, R237, R239, R241, R243) -/

/-- `LD IY,nn` (R231). -/
def execLdIYNN (nn : Word) (s : State) : Outcome := .next ((s.setIdx .iy nn).tick 14)

/-- `LD IY,(nn)` (R234). -/
def execLdIYAtNN (nn : Word) (s : State) : Outcome :=
  .next (((s.afterReadWord nn).setIdx .iy (s.readWord nn)).tick 20)

/-- `LD (nn),IY` (R237). -/
def execLdAtNNIY (nn : Word) (s : State) : Outcome :=
  .next ((s.memWriteWord nn (s.idx .iy)).tick 20)

/-- `LD SP,IY` (R239). -/
def execLdSPIY (s : State) : Outcome := .next ((s.setSP (s.idx .iy)).tick 10)

/-- `PUSH IY` (R241). -/
def execPushIY (s : State) : Outcome := .next ((s.push (s.idx .iy)).tick 15)

/-- `POP IY` (R243). -/
def execPopIY (s : State) : Outcome := .next ((s.afterPop.setIdx .iy s.popWord).tick 14)

end Sys2Proof.Machine
end

