-- ==== Sys2Proof/Machine/Load8.lean ====
section
/-! DEFINITION. The meanings of the 8-bit loads (40_load8.md). Every meaning of the families takes
the state whose PC is already past the instruction (R150) and adds the instruction's cycles last
(R530, R730; log entry 20). -/

namespace Sys2Proof.Machine

/-- `x[r] <- MemRead(a,1)`. -/
def State.loadReg (s : State) (r : Reg8) (a : Word) : State :=
  (s.afterRead a).setReg r (s.readByte a)

/-- `LD r,n` (R201). -/
def execLdRN (r : Reg8) (n : Byte) (s : State) : Outcome := .next ((s.setReg r n).tick 7)

/-- `LD r,r'` (R200). -/
def execLdRR (rd rs : Reg8) (s : State) : Outcome := .next ((s.setReg rd (s.reg rs)).tick 4)

/-- `LD r,(HL)` (R202). -/
def execLdRAtHL (r : Reg8) (s : State) : Outcome := .next ((s.loadReg r s.hl).tick 7)

/-- `LD (HL),r` (R204). -/
def execLdAtHLR (r : Reg8) (s : State) : Outcome := .next ((s.memWrite s.hl (s.reg r)).tick 7)

/-- `LD (HL),n` (R206). -/
def execLdAtHLN (n : Byte) (s : State) : Outcome := .next ((s.memWrite s.hl n).tick 10)

/-- `LD A,(BC)` (R208). -/
def execLdAAtBC (s : State) : Outcome := .next ((s.loadReg .a s.bc).tick 7)

/-- `LD A,(DE)` (R209). -/
def execLdAAtDE (s : State) : Outcome := .next ((s.loadReg .a s.de).tick 7)

/-- `LD A,(nn)` (R210). -/
def execLdAAtNN (nn : Word) (s : State) : Outcome := .next ((s.loadReg .a nn).tick 13)

/-- `LD (BC),A` (R211). -/
def execLdAtBCA (s : State) : Outcome := .next ((s.memWrite s.bc s.cpu.a).tick 7)

/-- `LD (DE),A` (R212). -/
def execLdAtDEA (s : State) : Outcome := .next ((s.memWrite s.de s.cpu.a).tick 7)

/-- `LD (nn),A` (R213). -/
def execLdAtNNA (nn : Word) (s : State) : Outcome := .next ((s.memWrite nn s.cpu.a).tick 13)

/-! ## I and R (R218 to R221) -/

/-- `LD I,A` (R220). -/
def execLdVectorA (s : State) : Outcome := .next ((s.setCpu { s.cpu with i := s.cpu.a }).tick 9)

/-- `LD R,A` (R221). -/
def execLdRefreshA (s : State) : Outcome := .next ((s.setCpu { s.cpu with r := s.cpu.a }).tick 9)

/-- A takes `v`, with the flags of R218. -/
def State.loadAFlags (s : State) (v : Byte) : State :=
  (s.setReg .a v).setFlags (ldAIRFlags s.flags v s.cpu.iff2)

/-- `LD A,I` (R218). -/
def execLdAVector (s : State) : Outcome := .next ((s.loadAFlags s.cpu.i).tick 9)

/-- What `LD A,R` reads: bit 7 of R over the low bits R_POLICY gives, a fresh draw or the count
(R38, R219). -/
def State.refreshRead (s : State) : Byte :=
  match s.cfg.rPolicy with
  | .draw => (s.cpu.r &&& 0x80) ||| (Config.draw s.drawNo &&& 0x7F)
  | .count => s.cpu.r

/-- The state after that read: under `draw` one draw is used (R13). -/
def State.afterRefreshRead (s : State) : State :=
  match s.cfg.rPolicy with
  | .draw => { s with drawNo := s.drawNo + 1 }
  | .count => s

/-- `LD A,R` (R219). -/
def execLdARefresh (s : State) : Outcome :=
  .next ((s.afterRefreshRead.loadAFlags s.refreshRead).tick 9)

/-! ## IX (R203, R205, R207, R214 to R217) -/

/-- `LD r,(IX+d)` (R203). -/
def execLdRAtIXd (r : Reg8) (d : Byte) (s : State) : Outcome :=
  .next ((s.loadReg r (s.ea .ix d)).tick 19)

/-- `LD (IX+d),r` (R205). -/
def execLdAtIXdR (r : Reg8) (d : Byte) (s : State) : Outcome :=
  .next ((s.memWrite (s.ea .ix d) (s.reg r)).tick 19)

/-- `LD (IX+d),n` (R207). -/
def execLdAtIXdN (d n : Byte) (s : State) : Outcome := .next ((s.memWrite (s.ea .ix d) n).tick 19)

/-- `LD r,HX` (R214). -/
def execLdRHX (r : Reg8) (s : State) : Outcome := .next ((s.setReg r (s.half .ix .high)).tick 8)

/-- `LD r,LX` (R214). -/
def execLdRLX (r : Reg8) (s : State) : Outcome := .next ((s.setReg r (s.half .ix .low)).tick 8)

/-- `LD HX,r` (R215). -/
def execLdHXR (r : Reg8) (s : State) : Outcome := .next ((s.setHalf .ix .high (s.reg r)).tick 8)

/-- `LD LX,r` (R215). -/
def execLdLXR (r : Reg8) (s : State) : Outcome := .next ((s.setHalf .ix .low (s.reg r)).tick 8)

/-- `LD HX,HX` (R216). -/
def execLdHXHX (s : State) : Outcome := .next ((s.setHalf .ix .high (s.half .ix .high)).tick 8)

/-- `LD HX,LX` (R216). -/
def execLdHXLX (s : State) : Outcome := .next ((s.setHalf .ix .high (s.half .ix .low)).tick 8)

/-- `LD LX,HX` (R216). -/
def execLdLXHX (s : State) : Outcome := .next ((s.setHalf .ix .low (s.half .ix .high)).tick 8)

/-- `LD LX,LX` (R216). -/
def execLdLXLX (s : State) : Outcome := .next ((s.setHalf .ix .low (s.half .ix .low)).tick 8)

/-- `LD HX,n` (R217). -/
def execLdHXN (n : Byte) (s : State) : Outcome := .next ((s.setHalf .ix .high n).tick 11)

/-- `LD LX,n` (R217). -/
def execLdLXN (n : Byte) (s : State) : Outcome := .next ((s.setHalf .ix .low n).tick 11)

/-! ## IY (R203, R205, R207, R214 to R217) -/

/-- `LD r,(IY+d)` (R203). -/
def execLdRAtIYd (r : Reg8) (d : Byte) (s : State) : Outcome :=
  .next ((s.loadReg r (s.ea .iy d)).tick 19)

/-- `LD (IY+d),r` (R205). -/
def execLdAtIYdR (r : Reg8) (d : Byte) (s : State) : Outcome :=
  .next ((s.memWrite (s.ea .iy d) (s.reg r)).tick 19)

/-- `LD (IY+d),n` (R207). -/
def execLdAtIYdN (d n : Byte) (s : State) : Outcome := .next ((s.memWrite (s.ea .iy d) n).tick 19)

/-- `LD r,HY` (R214). -/
def execLdRHY (r : Reg8) (s : State) : Outcome := .next ((s.setReg r (s.half .iy .high)).tick 8)

/-- `LD r,LY` (R214). -/
def execLdRLY (r : Reg8) (s : State) : Outcome := .next ((s.setReg r (s.half .iy .low)).tick 8)

/-- `LD HY,r` (R215). -/
def execLdHYR (r : Reg8) (s : State) : Outcome := .next ((s.setHalf .iy .high (s.reg r)).tick 8)

/-- `LD LY,r` (R215). -/
def execLdLYR (r : Reg8) (s : State) : Outcome := .next ((s.setHalf .iy .low (s.reg r)).tick 8)

/-- `LD HY,HY` (R216). -/
def execLdHYHY (s : State) : Outcome := .next ((s.setHalf .iy .high (s.half .iy .high)).tick 8)

/-- `LD HY,LY` (R216). -/
def execLdHYLY (s : State) : Outcome := .next ((s.setHalf .iy .high (s.half .iy .low)).tick 8)

/-- `LD LY,HY` (R216). -/
def execLdLYHY (s : State) : Outcome := .next ((s.setHalf .iy .low (s.half .iy .high)).tick 8)

/-- `LD LY,LY` (R216). -/
def execLdLYLY (s : State) : Outcome := .next ((s.setHalf .iy .low (s.half .iy .low)).tick 8)

/-- `LD HY,n` (R217). -/
def execLdHYN (n : Byte) (s : State) : Outcome := .next ((s.setHalf .iy .high n).tick 11)

/-- `LD LY,n` (R217). -/
def execLdLYN (n : Byte) (s : State) : Outcome := .next ((s.setHalf .iy .low n).tick 11)

end Sys2Proof.Machine
end

