-- ==== Sys2Proof/Machine/RotateShift.lean ====
section
/-! DEFINITION. The meanings of the rotate and shift group (46_rotate_shift.md). -/

namespace Sys2Proof.Machine

/-! ## Accumulator rotates (R370 to R373) -/

/-- A rotated by `op`, with the flags of R370. -/
def State.rotA (s : State) (op : RotOp) : State :=
  let r := rot op s.cpu.a (s.cpu.f.getLsbD 0)
  (s.setReg .a r.1).setFlags (rotAFlags s.flags r.1 r.2)

/-- `RLCA` (R370). -/
def execRlca (s : State) : Outcome := .next ((s.rotA .rlc).tick 4)

/-- `RLA` (R371). -/
def execRla (s : State) : Outcome := .next ((s.rotA .rl).tick 4)

/-- `RRCA` (R372). -/
def execRrca (s : State) : Outcome := .next ((s.rotA .rrc).tick 4)

/-- `RRA` (R373). -/
def execRra (s : State) : Outcome := .next ((s.rotA .rr).tick 4)

/-! ## The CB group (R374 to R383, R386) -/

/-- `Rot` on a register (R375). -/
def State.rotReg (s : State) (op : RotOp) (r : Reg8) : State :=
  let w := rot op (s.reg r) (s.cpu.f.getLsbD 0)
  (s.setReg r w.1).setFlags (rotFlags w.1 w.2)

/-- `Rot` on the byte at `a`: read once, written once (R374, R375). -/
def State.rotAt (s : State) (op : RotOp) (a : Word) : State :=
  let w := rot op (s.readByte a) (s.cpu.f.getLsbD 0)
  ((s.afterRead a).memWrite a w.1).setFlags (rotFlags w.1 w.2)

/-- `Rot` on the byte at `a`, the result also in a register (R386). -/
def State.rotAtCopy (s : State) (op : RotOp) (a : Word) (r : Reg8) : State :=
  let w := rot op (s.readByte a) (s.cpu.f.getLsbD 0)
  (((s.afterRead a).memWrite a w.1).setReg r w.1).setFlags (rotFlags w.1 w.2)

/-- `RLC r` (R376). -/
def execRlcR (r : Reg8) (s : State) : Outcome := .next ((s.rotReg .rlc r).tick 8)

/-- `RLC (HL)` (R376). -/
def execRlcAtHL (s : State) : Outcome := .next ((s.rotAt .rlc s.hl).tick 15)

/-- `RLC (IX+d)` (R376). -/
def execRlcAtIXd (d : Byte) (s : State) : Outcome := .next ((s.rotAt .rlc (s.ea .ix d)).tick 23)

/-- `RLC (IY+d)` (R376). -/
def execRlcAtIYd (d : Byte) (s : State) : Outcome := .next ((s.rotAt .rlc (s.ea .iy d)).tick 23)

/-- `RRC r` (R377). -/
def execRrcR (r : Reg8) (s : State) : Outcome := .next ((s.rotReg .rrc r).tick 8)

/-- `RRC (HL)` (R377). -/
def execRrcAtHL (s : State) : Outcome := .next ((s.rotAt .rrc s.hl).tick 15)

/-- `RRC (IX+d)` (R377). -/
def execRrcAtIXd (d : Byte) (s : State) : Outcome := .next ((s.rotAt .rrc (s.ea .ix d)).tick 23)

/-- `RRC (IY+d)` (R377). -/
def execRrcAtIYd (d : Byte) (s : State) : Outcome := .next ((s.rotAt .rrc (s.ea .iy d)).tick 23)

/-- `RL r` (R378). -/
def execRlR (r : Reg8) (s : State) : Outcome := .next ((s.rotReg .rl r).tick 8)

/-- `RL (HL)` (R378). -/
def execRlAtHL (s : State) : Outcome := .next ((s.rotAt .rl s.hl).tick 15)

/-- `RL (IX+d)` (R378). -/
def execRlAtIXd (d : Byte) (s : State) : Outcome := .next ((s.rotAt .rl (s.ea .ix d)).tick 23)

/-- `RL (IY+d)` (R378). -/
def execRlAtIYd (d : Byte) (s : State) : Outcome := .next ((s.rotAt .rl (s.ea .iy d)).tick 23)

/-- `RR r` (R379). -/
def execRrR (r : Reg8) (s : State) : Outcome := .next ((s.rotReg .rr r).tick 8)

/-- `RR (HL)` (R379). -/
def execRrAtHL (s : State) : Outcome := .next ((s.rotAt .rr s.hl).tick 15)

/-- `RR (IX+d)` (R379). -/
def execRrAtIXd (d : Byte) (s : State) : Outcome := .next ((s.rotAt .rr (s.ea .ix d)).tick 23)

/-- `RR (IY+d)` (R379). -/
def execRrAtIYd (d : Byte) (s : State) : Outcome := .next ((s.rotAt .rr (s.ea .iy d)).tick 23)

/-- `SLA r` (R380). -/
def execSlaR (r : Reg8) (s : State) : Outcome := .next ((s.rotReg .sla r).tick 8)

/-- `SLA (HL)` (R380). -/
def execSlaAtHL (s : State) : Outcome := .next ((s.rotAt .sla s.hl).tick 15)

/-- `SLA (IX+d)` (R380). -/
def execSlaAtIXd (d : Byte) (s : State) : Outcome := .next ((s.rotAt .sla (s.ea .ix d)).tick 23)

/-- `SLA (IY+d)` (R380). -/
def execSlaAtIYd (d : Byte) (s : State) : Outcome := .next ((s.rotAt .sla (s.ea .iy d)).tick 23)

/-- `SRA r` (R381). -/
def execSraR (r : Reg8) (s : State) : Outcome := .next ((s.rotReg .sra r).tick 8)

/-- `SRA (HL)` (R381). -/
def execSraAtHL (s : State) : Outcome := .next ((s.rotAt .sra s.hl).tick 15)

/-- `SRA (IX+d)` (R381). -/
def execSraAtIXd (d : Byte) (s : State) : Outcome := .next ((s.rotAt .sra (s.ea .ix d)).tick 23)

/-- `SRA (IY+d)` (R381). -/
def execSraAtIYd (d : Byte) (s : State) : Outcome := .next ((s.rotAt .sra (s.ea .iy d)).tick 23)

/-- `SLL r` (R383). -/
def execSllR (r : Reg8) (s : State) : Outcome := .next ((s.rotReg .sll r).tick 8)

/-- `SLL (HL)` (R383). -/
def execSllAtHL (s : State) : Outcome := .next ((s.rotAt .sll s.hl).tick 15)

/-- `SLL (IX+d)` (R383). -/
def execSllAtIXd (d : Byte) (s : State) : Outcome := .next ((s.rotAt .sll (s.ea .ix d)).tick 23)

/-- `SLL (IY+d)` (R383). -/
def execSllAtIYd (d : Byte) (s : State) : Outcome := .next ((s.rotAt .sll (s.ea .iy d)).tick 23)

/-- `SRL r` (R382). -/
def execSrlR (r : Reg8) (s : State) : Outcome := .next ((s.rotReg .srl r).tick 8)

/-- `SRL (HL)` (R382). -/
def execSrlAtHL (s : State) : Outcome := .next ((s.rotAt .srl s.hl).tick 15)

/-- `SRL (IX+d)` (R382). -/
def execSrlAtIXd (d : Byte) (s : State) : Outcome := .next ((s.rotAt .srl (s.ea .ix d)).tick 23)

/-- `SRL (IY+d)` (R382). -/
def execSrlAtIYd (d : Byte) (s : State) : Outcome := .next ((s.rotAt .srl (s.ea .iy d)).tick 23)

/-- `rot (IX+d),r` (R386). -/
def execRotAtIXdR (o : RotOp) (d : Byte) (r : Reg8) (s : State) : Outcome :=
  .next ((s.rotAtCopy o (s.ea .ix d) r).tick 23)

/-- `rot (IY+d),r` (R386). -/
def execRotAtIYdR (o : RotOp) (d : Byte) (r : Reg8) (s : State) : Outcome :=
  .next ((s.rotAtCopy o (s.ea .iy d) r).tick 23)

/-! ## Decimal digit rotates (R384, R385) -/

/-- The high digit of a byte. -/
def digitHigh (v : Byte) : BitVec 4 := v.extractLsb' 4 4

/-- The low digit of a byte. -/
def digitLow (v : Byte) : BitVec 4 := v.extractLsb' 0 4

/-- The byte at HL becomes `m` and A becomes `a`, with the flags of R384. -/
def State.rotDigits (s : State) (m a : Byte) : State :=
  (((s.afterRead s.hl).memWrite s.hl m).setReg .a a).setFlags (inFlags s.flags a)

/-- `RLD` (R384). -/
def execRld (s : State) : Outcome :=
  let v := s.readByte s.hl
  .next ((s.rotDigits (digitLow v ++ digitLow s.cpu.a) (digitHigh s.cpu.a ++ digitHigh v)).tick 18)

/-- `RRD` (R385). -/
def execRrd (s : State) : Outcome :=
  let v := s.readByte s.hl
  .next ((s.rotDigits (digitLow s.cpu.a ++ digitHigh v) (digitHigh s.cpu.a ++ digitLow v)).tick 18)

end Sys2Proof.Machine
end

