-- ==== Sys2Proof/Machine/Dispatch.lean ====
section
/-! DEFINITION. The dispatch: one arm per constructor of Instr, each one direct call of the
instruction's meaning. -/

namespace Sys2Proof.Machine

/-- The effect of an instruction on the state whose PC is already past it (R150, R530). -/
def exec (i : Instr) (s : State) : Host.Outcome State Fault Refusal :=
  match i with
  | .djnzE e => Sys2Proof.Machine.execDjnzE e s
  | .jrE e => Sys2Proof.Machine.execJrE e s
  | .jrJCCE jcc e => Sys2Proof.Machine.execJrJCCE jcc e s
  | .ldDDNN p nn => Sys2Proof.Machine.execLdDDNN p nn s
  | .addHLSS p => Sys2Proof.Machine.execAddHLSS p s
  | .ldAtNNHL nn => Sys2Proof.Machine.execLdAtNNHL nn s
  | .ldHLAtNN nn => Sys2Proof.Machine.execLdHLAtNN nn s
  | .ldAtNNA nn => Sys2Proof.Machine.execLdAtNNA nn s
  | .ldAAtNN nn => Sys2Proof.Machine.execLdAAtNN nn s
  | .incSS p => Sys2Proof.Machine.execIncSS p s
  | .decSS p => Sys2Proof.Machine.execDecSS p s
  | .incR r => Sys2Proof.Machine.execIncR r s
  | .decR r => Sys2Proof.Machine.execDecR r s
  | .ldRN r n => Sys2Proof.Machine.execLdRN r n s
  | .ldAtHLN n => Sys2Proof.Machine.execLdAtHLN n s
  | .ldRR rd rs => Sys2Proof.Machine.execLdRR rd rs s
  | .ldRAtHL r => Sys2Proof.Machine.execLdRAtHL r s
  | .ldAtHLR r => Sys2Proof.Machine.execLdAtHLR r s
  | .addAR r => Sys2Proof.Machine.execAddAR r s
  | .addAN n => Sys2Proof.Machine.execAddAN n s
  | .adcAR r => Sys2Proof.Machine.execAdcAR r s
  | .adcAN n => Sys2Proof.Machine.execAdcAN n s
  | .subR r => Sys2Proof.Machine.execSubR r s
  | .subN n => Sys2Proof.Machine.execSubN n s
  | .sbcAR r => Sys2Proof.Machine.execSbcAR r s
  | .sbcAN n => Sys2Proof.Machine.execSbcAN n s
  | .andR r => Sys2Proof.Machine.execAndR r s
  | .andN n => Sys2Proof.Machine.execAndN n s
  | .xorR r => Sys2Proof.Machine.execXorR r s
  | .xorN n => Sys2Proof.Machine.execXorN n s
  | .orR r => Sys2Proof.Machine.execOrR r s
  | .orN n => Sys2Proof.Machine.execOrN n s
  | .cpR r => Sys2Proof.Machine.execCpR r s
  | .cpN n => Sys2Proof.Machine.execCpN n s
  | .retCC cc => Sys2Proof.Machine.execRetCC cc s
  | .popQQ q => Sys2Proof.Machine.execPopQQ q s
  | .jpCCNN cc nn => Sys2Proof.Machine.execJpCCNN cc nn s
  | .jpNN nn => Sys2Proof.Machine.execJpNN nn s
  | .outAtNA n => Sys2Proof.Machine.execOutAtNA n s
  | .inAAtN n => Sys2Proof.Machine.execInAAtN n s
  | .callCCNN cc nn => Sys2Proof.Machine.execCallCCNN cc nn s
  | .pushQQ q => Sys2Proof.Machine.execPushQQ q s
  | .callNN nn => Sys2Proof.Machine.execCallNN nn s
  | .rstP t => Sys2Proof.Machine.execRstP t s
  | .rlcR r => Sys2Proof.Machine.execRlcR r s
  | .rrcR r => Sys2Proof.Machine.execRrcR r s
  | .rlR r => Sys2Proof.Machine.execRlR r s
  | .rrR r => Sys2Proof.Machine.execRrR r s
  | .slaR r => Sys2Proof.Machine.execSlaR r s
  | .sraR r => Sys2Proof.Machine.execSraR r s
  | .sllR r => Sys2Proof.Machine.execSllR r s
  | .srlR r => Sys2Proof.Machine.execSrlR r s
  | .bitBR b r => Sys2Proof.Machine.execBitBR b r s
  | .bitBAtHL b => Sys2Proof.Machine.execBitBAtHL b s
  | .resBR b r => Sys2Proof.Machine.execResBR b r s
  | .resBAtHL b => Sys2Proof.Machine.execResBAtHL b s
  | .setBR b r => Sys2Proof.Machine.execSetBR b r s
  | .setBAtHL b => Sys2Proof.Machine.execSetBAtHL b s
  | .inRAtC r => Sys2Proof.Machine.execInRAtC r s
  | .outAtCR r => Sys2Proof.Machine.execOutAtCR r s
  | .sbcHLSS p => Sys2Proof.Machine.execSbcHLSS p s
  | .adcHLSS p => Sys2Proof.Machine.execAdcHLSS p s
  | .ldAtNNDD p nn => Sys2Proof.Machine.execLdAtNNDD p nn s
  | .ldDDAtNN p nn => Sys2Proof.Machine.execLdDDAtNN p nn s
  | .negMirror y => Sys2Proof.Machine.execNegMirror y s
  | .retnMirror y => Sys2Proof.Machine.execRetnMirror y s
  | .im0Mirror y => Sys2Proof.Machine.execIm0Mirror y s
  | .addIXPP p => Sys2Proof.Machine.execAddIXPP p s
  | .ldIXNN nn => Sys2Proof.Machine.execLdIXNN nn s
  | .ldAtNNIX nn => Sys2Proof.Machine.execLdAtNNIX nn s
  | .ldIXAtNN nn => Sys2Proof.Machine.execLdIXAtNN nn s
  | .incAtIXd d => Sys2Proof.Machine.execIncAtIXd d s
  | .decAtIXd d => Sys2Proof.Machine.execDecAtIXd d s
  | .ldAtIXdN d n => Sys2Proof.Machine.execLdAtIXdN d n s
  | .ldRAtIXd r d => Sys2Proof.Machine.execLdRAtIXd r d s
  | .ldAtIXdR r d => Sys2Proof.Machine.execLdAtIXdR r d s
  | .addAAtIXd d => Sys2Proof.Machine.execAddAAtIXd d s
  | .adcAAtIXd d => Sys2Proof.Machine.execAdcAAtIXd d s
  | .subAtIXd d => Sys2Proof.Machine.execSubAtIXd d s
  | .sbcAAtIXd d => Sys2Proof.Machine.execSbcAAtIXd d s
  | .andAtIXd d => Sys2Proof.Machine.execAndAtIXd d s
  | .xorAtIXd d => Sys2Proof.Machine.execXorAtIXd d s
  | .orAtIXd d => Sys2Proof.Machine.execOrAtIXd d s
  | .cpAtIXd d => Sys2Proof.Machine.execCpAtIXd d s
  | .ldHXN n => Sys2Proof.Machine.execLdHXN n s
  | .ldLXN n => Sys2Proof.Machine.execLdLXN n s
  | .ldRHX r => Sys2Proof.Machine.execLdRHX r s
  | .ldRLX r => Sys2Proof.Machine.execLdRLX r s
  | .ldHXR r => Sys2Proof.Machine.execLdHXR r s
  | .ldLXR r => Sys2Proof.Machine.execLdLXR r s
  | .rlcAtIXd d => Sys2Proof.Machine.execRlcAtIXd d s
  | .rrcAtIXd d => Sys2Proof.Machine.execRrcAtIXd d s
  | .rlAtIXd d => Sys2Proof.Machine.execRlAtIXd d s
  | .rrAtIXd d => Sys2Proof.Machine.execRrAtIXd d s
  | .slaAtIXd d => Sys2Proof.Machine.execSlaAtIXd d s
  | .sraAtIXd d => Sys2Proof.Machine.execSraAtIXd d s
  | .sllAtIXd d => Sys2Proof.Machine.execSllAtIXd d s
  | .srlAtIXd d => Sys2Proof.Machine.execSrlAtIXd d s
  | .rotAtIXdR o d r => Sys2Proof.Machine.execRotAtIXdR o d r s
  | .bitBAtIXd b d => Sys2Proof.Machine.execBitBAtIXd b d s
  | .resBAtIXd b d => Sys2Proof.Machine.execResBAtIXd b d s
  | .setBAtIXd b d => Sys2Proof.Machine.execSetBAtIXd b d s
  | .bitBAtIXdMirror b d r => Sys2Proof.Machine.execBitBAtIXdMirror b d r s
  | .resBAtIXdR b d r => Sys2Proof.Machine.execResBAtIXdR b d r s
  | .setBAtIXdR b d r => Sys2Proof.Machine.execSetBAtIXdR b d r s
  | .addIYRR p => Sys2Proof.Machine.execAddIYRR p s
  | .ldIYNN nn => Sys2Proof.Machine.execLdIYNN nn s
  | .ldAtNNIY nn => Sys2Proof.Machine.execLdAtNNIY nn s
  | .ldIYAtNN nn => Sys2Proof.Machine.execLdIYAtNN nn s
  | .incAtIYd d => Sys2Proof.Machine.execIncAtIYd d s
  | .decAtIYd d => Sys2Proof.Machine.execDecAtIYd d s
  | .ldAtIYdN d n => Sys2Proof.Machine.execLdAtIYdN d n s
  | .ldRAtIYd r d => Sys2Proof.Machine.execLdRAtIYd r d s
  | .ldAtIYdR r d => Sys2Proof.Machine.execLdAtIYdR r d s
  | .addAAtIYd d => Sys2Proof.Machine.execAddAAtIYd d s
  | .adcAAtIYd d => Sys2Proof.Machine.execAdcAAtIYd d s
  | .subAtIYd d => Sys2Proof.Machine.execSubAtIYd d s
  | .sbcAAtIYd d => Sys2Proof.Machine.execSbcAAtIYd d s
  | .andAtIYd d => Sys2Proof.Machine.execAndAtIYd d s
  | .xorAtIYd d => Sys2Proof.Machine.execXorAtIYd d s
  | .orAtIYd d => Sys2Proof.Machine.execOrAtIYd d s
  | .cpAtIYd d => Sys2Proof.Machine.execCpAtIYd d s
  | .ldHYN n => Sys2Proof.Machine.execLdHYN n s
  | .ldLYN n => Sys2Proof.Machine.execLdLYN n s
  | .ldRHY r => Sys2Proof.Machine.execLdRHY r s
  | .ldRLY r => Sys2Proof.Machine.execLdRLY r s
  | .ldHYR r => Sys2Proof.Machine.execLdHYR r s
  | .ldLYR r => Sys2Proof.Machine.execLdLYR r s
  | .rlcAtIYd d => Sys2Proof.Machine.execRlcAtIYd d s
  | .rrcAtIYd d => Sys2Proof.Machine.execRrcAtIYd d s
  | .rlAtIYd d => Sys2Proof.Machine.execRlAtIYd d s
  | .rrAtIYd d => Sys2Proof.Machine.execRrAtIYd d s
  | .slaAtIYd d => Sys2Proof.Machine.execSlaAtIYd d s
  | .sraAtIYd d => Sys2Proof.Machine.execSraAtIYd d s
  | .sllAtIYd d => Sys2Proof.Machine.execSllAtIYd d s
  | .srlAtIYd d => Sys2Proof.Machine.execSrlAtIYd d s
  | .rotAtIYdR o d r => Sys2Proof.Machine.execRotAtIYdR o d r s
  | .bitBAtIYd b d => Sys2Proof.Machine.execBitBAtIYd b d s
  | .resBAtIYd b d => Sys2Proof.Machine.execResBAtIYd b d s
  | .setBAtIYd b d => Sys2Proof.Machine.execSetBAtIYd b d s
  | .bitBAtIYdMirror b d r => Sys2Proof.Machine.execBitBAtIYdMirror b d r s
  | .resBAtIYdR b d r => Sys2Proof.Machine.execResBAtIYdR b d r s
  | .setBAtIYdR b d r => Sys2Proof.Machine.execSetBAtIYdR b d r s
  | .nop => Sys2Proof.Machine.execNop s
  | .exAFAF' => Sys2Proof.Machine.execExAFAF' s
  | .ldAtBCA => Sys2Proof.Machine.execLdAtBCA s
  | .ldAAtBC => Sys2Proof.Machine.execLdAAtBC s
  | .ldAtDEA => Sys2Proof.Machine.execLdAtDEA s
  | .ldAAtDE => Sys2Proof.Machine.execLdAAtDE s
  | .incAtHL => Sys2Proof.Machine.execIncAtHL s
  | .decAtHL => Sys2Proof.Machine.execDecAtHL s
  | .rlca => Sys2Proof.Machine.execRlca s
  | .rrca => Sys2Proof.Machine.execRrca s
  | .rla => Sys2Proof.Machine.execRla s
  | .rra => Sys2Proof.Machine.execRra s
  | .daa => Sys2Proof.Machine.execDaa s
  | .cpl => Sys2Proof.Machine.execCpl s
  | .scf => Sys2Proof.Machine.execScf s
  | .ccf => Sys2Proof.Machine.execCcf s
  | .halt => Sys2Proof.Machine.execHalt s
  | .addAAtHL => Sys2Proof.Machine.execAddAAtHL s
  | .adcAAtHL => Sys2Proof.Machine.execAdcAAtHL s
  | .subAtHL => Sys2Proof.Machine.execSubAtHL s
  | .sbcAAtHL => Sys2Proof.Machine.execSbcAAtHL s
  | .andAtHL => Sys2Proof.Machine.execAndAtHL s
  | .xorAtHL => Sys2Proof.Machine.execXorAtHL s
  | .orAtHL => Sys2Proof.Machine.execOrAtHL s
  | .cpAtHL => Sys2Proof.Machine.execCpAtHL s
  | .ret => Sys2Proof.Machine.execRet s
  | .exx => Sys2Proof.Machine.execExx s
  | .jpHL => Sys2Proof.Machine.execJpHL s
  | .ldSPHL => Sys2Proof.Machine.execLdSPHL s
  | .exAtSPHL => Sys2Proof.Machine.execExAtSPHL s
  | .exDEHL => Sys2Proof.Machine.execExDEHL s
  | .di => Sys2Proof.Machine.execDi s
  | .ei => Sys2Proof.Machine.execEi s
  | .rlcAtHL => Sys2Proof.Machine.execRlcAtHL s
  | .rrcAtHL => Sys2Proof.Machine.execRrcAtHL s
  | .rlAtHL => Sys2Proof.Machine.execRlAtHL s
  | .rrAtHL => Sys2Proof.Machine.execRrAtHL s
  | .slaAtHL => Sys2Proof.Machine.execSlaAtHL s
  | .sraAtHL => Sys2Proof.Machine.execSraAtHL s
  | .sllAtHL => Sys2Proof.Machine.execSllAtHL s
  | .srlAtHL => Sys2Proof.Machine.execSrlAtHL s
  | .inFAtC => Sys2Proof.Machine.execInFAtC s
  | .outAtC0 => Sys2Proof.Machine.execOutAtC0 s
  | .neg => Sys2Proof.Machine.execNeg s
  | .retn => Sys2Proof.Machine.execRetn s
  | .reti => Sys2Proof.Machine.execReti s
  | .im0 => Sys2Proof.Machine.execIm0 s
  | .im1 => Sys2Proof.Machine.execIm1 s
  | .im2 => Sys2Proof.Machine.execIm2 s
  | .im1Mirror => Sys2Proof.Machine.execIm1Mirror s
  | .im2Mirror => Sys2Proof.Machine.execIm2Mirror s
  | .ldVectorA => Sys2Proof.Machine.execLdVectorA s
  | .ldRefreshA => Sys2Proof.Machine.execLdRefreshA s
  | .ldAVector => Sys2Proof.Machine.execLdAVector s
  | .ldARefresh => Sys2Proof.Machine.execLdARefresh s
  | .rrd => Sys2Proof.Machine.execRrd s
  | .rld => Sys2Proof.Machine.execRld s
  | .ldi => Sys2Proof.Machine.execLdi s
  | .cpi => Sys2Proof.Machine.execCpi s
  | .ini => Sys2Proof.Machine.execIni s
  | .outi => Sys2Proof.Machine.execOuti s
  | .ldd => Sys2Proof.Machine.execLdd s
  | .cpd => Sys2Proof.Machine.execCpd s
  | .ind => Sys2Proof.Machine.execInd s
  | .outd => Sys2Proof.Machine.execOutd s
  | .ldir => Sys2Proof.Machine.execLdir s
  | .cpir => Sys2Proof.Machine.execCpir s
  | .inir => Sys2Proof.Machine.execInir s
  | .otir => Sys2Proof.Machine.execOtir s
  | .lddr => Sys2Proof.Machine.execLddr s
  | .cpdr => Sys2Proof.Machine.execCpdr s
  | .indr => Sys2Proof.Machine.execIndr s
  | .otdr => Sys2Proof.Machine.execOtdr s
  | .incIX => Sys2Proof.Machine.execIncIX s
  | .decIX => Sys2Proof.Machine.execDecIX s
  | .addAHX => Sys2Proof.Machine.execAddAHX s
  | .addALX => Sys2Proof.Machine.execAddALX s
  | .adcAHX => Sys2Proof.Machine.execAdcAHX s
  | .adcALX => Sys2Proof.Machine.execAdcALX s
  | .subHX => Sys2Proof.Machine.execSubHX s
  | .subLX => Sys2Proof.Machine.execSubLX s
  | .sbcAHX => Sys2Proof.Machine.execSbcAHX s
  | .sbcALX => Sys2Proof.Machine.execSbcALX s
  | .andHX => Sys2Proof.Machine.execAndHX s
  | .andLX => Sys2Proof.Machine.execAndLX s
  | .xorHX => Sys2Proof.Machine.execXorHX s
  | .xorLX => Sys2Proof.Machine.execXorLX s
  | .orHX => Sys2Proof.Machine.execOrHX s
  | .orLX => Sys2Proof.Machine.execOrLX s
  | .cpHX => Sys2Proof.Machine.execCpHX s
  | .cpLX => Sys2Proof.Machine.execCpLX s
  | .popIX => Sys2Proof.Machine.execPopIX s
  | .exAtSPIX => Sys2Proof.Machine.execExAtSPIX s
  | .pushIX => Sys2Proof.Machine.execPushIX s
  | .jpIX => Sys2Proof.Machine.execJpIX s
  | .ldSPIX => Sys2Proof.Machine.execLdSPIX s
  | .incHX => Sys2Proof.Machine.execIncHX s
  | .decHX => Sys2Proof.Machine.execDecHX s
  | .incLX => Sys2Proof.Machine.execIncLX s
  | .decLX => Sys2Proof.Machine.execDecLX s
  | .ldHXHX => Sys2Proof.Machine.execLdHXHX s
  | .ldHXLX => Sys2Proof.Machine.execLdHXLX s
  | .ldLXHX => Sys2Proof.Machine.execLdLXHX s
  | .ldLXLX => Sys2Proof.Machine.execLdLXLX s
  | .incIY => Sys2Proof.Machine.execIncIY s
  | .decIY => Sys2Proof.Machine.execDecIY s
  | .addAHY => Sys2Proof.Machine.execAddAHY s
  | .addALY => Sys2Proof.Machine.execAddALY s
  | .adcAHY => Sys2Proof.Machine.execAdcAHY s
  | .adcALY => Sys2Proof.Machine.execAdcALY s
  | .subHY => Sys2Proof.Machine.execSubHY s
  | .subLY => Sys2Proof.Machine.execSubLY s
  | .sbcAHY => Sys2Proof.Machine.execSbcAHY s
  | .sbcALY => Sys2Proof.Machine.execSbcALY s
  | .andHY => Sys2Proof.Machine.execAndHY s
  | .andLY => Sys2Proof.Machine.execAndLY s
  | .xorHY => Sys2Proof.Machine.execXorHY s
  | .xorLY => Sys2Proof.Machine.execXorLY s
  | .orHY => Sys2Proof.Machine.execOrHY s
  | .orLY => Sys2Proof.Machine.execOrLY s
  | .cpHY => Sys2Proof.Machine.execCpHY s
  | .cpLY => Sys2Proof.Machine.execCpLY s
  | .popIY => Sys2Proof.Machine.execPopIY s
  | .exAtSPIY => Sys2Proof.Machine.execExAtSPIY s
  | .pushIY => Sys2Proof.Machine.execPushIY s
  | .jpIY => Sys2Proof.Machine.execJpIY s
  | .ldSPIY => Sys2Proof.Machine.execLdSPIY s
  | .incHY => Sys2Proof.Machine.execIncHY s
  | .decHY => Sys2Proof.Machine.execDecHY s
  | .incLY => Sys2Proof.Machine.execIncLY s
  | .decLY => Sys2Proof.Machine.execDecLY s
  | .ldHYHY => Sys2Proof.Machine.execLdHYHY s
  | .ldHYLY => Sys2Proof.Machine.execLdHYLY s
  | .ldLYHY => Sys2Proof.Machine.execLdLYHY s
  | .ldLYLY => Sys2Proof.Machine.execLdLYLY s

end Sys2Proof.Machine
end

