-- ==== Sys2Proof/WellFormed.lean ====
section
/-! DEFINITION. Well-formed instructions: every operand at a value of its field's domain in
spec/opcode_table.json. The operand types admit only field values; what is left to check is the
register of the forms whose H and L name index halves instead (R214, R215) and the opcode field of
the mirrors (R332 to R334). -/

namespace Sys2Proof

/-- A register field that is neither H nor L (R214, R215). -/
def Reg8.notHL (r : Reg8) : Bool := r != .h && r != .l

/-- Every operand is in its field's domain. -/
def Instr.wf : Instr → Bool
  | .negMirror y => [1, 2, 3, 4, 5, 6, 7].contains y
  | .retnMirror y => [2, 3, 4, 5, 6, 7].contains y
  | .im0Mirror y => [1, 4, 5].contains y
  | .ldRHX r => r.notHL
  | .ldRLX r => r.notHL
  | .ldHXR r => r.notHL
  | .ldLXR r => r.notHL
  | .ldRHY r => r.notHL
  | .ldRLY r => r.notHL
  | .ldHYR r => r.notHL
  | .ldLYR r => r.notHL
  | _ => true

end Sys2Proof
end

