-- ==== Sys2Proof/Decode.lean ====
section
/-! DEFINITION. The decoder, total on every byte string (R140 to R156), and the encoder. The rows of
the `extended` group decode like any other: whether they are admitted (R141) is the machine's
configuration, checked at the fetch (Machine/Fetch.lean; log entry 6). -/

namespace Sys2Proof

open Sys2Proof.Machine (lo hi pair)

/-- What a byte string decodes to. -/
inductive Decoded where
  /-- an instruction, and the bytes after it -/
  | ok (i : Instr) (rest : List Byte)
  /-- the string ends before the instruction does -/
  | more
  /-- no row of the table matches (R142) -/
  | unknown
deriving DecidableEq, Repr

/-- A row selected by the opcode byte and what data bytes it still has (R140, R142). -/
inductive Row where
  | absent
  | plain (i : Instr)
  | imm8 (f : Byte → Instr)
  | imm16 (f : Word → Instr)
  | dispImm (f : Byte → Byte → Instr)

/-- Reads a row's data bytes; `nn` is little-endian (R142, R151). -/
def Row.complete : Row → List Byte → Decoded
  | .absent, _ => .unknown
  | .plain i, bs => .ok i bs
  | .imm8 f, n :: bs => .ok (f n) bs
  | .imm16 f, l :: h :: bs => .ok (f (pair h l)) bs
  | .dispImm f, d :: n :: bs => .ok (f d n) bs
  | .imm8 _, [] => .more
  | .imm16 _, [] => .more
  | .imm16 _, [_] => .more
  | .dispImm _, [] => .more
  | .dispImm _, [_] => .more

/-! ## The fields of an opcode byte (R140, R145 to R149) -/

/-- `x = op[7:6]`. -/
def fieldX (op : Byte) : Nat := op.toNat / 64
/-- `y = op[5:3]`. -/
def fieldY (op : Byte) : Nat := op.toNat / 8 % 8
/-- `z = op[2:0]`. -/
def fieldZ (op : Byte) : Nat := op.toNat % 8
/-- `y` as a bit number, a restart number or a mirror's field. -/
def fieldY8 (op : Byte) : Fin 8 := Fin.ofNat 8 (fieldY op)

/-- The register of field value `k`; 6 is the memory operand (R145). -/
def regOf : Nat → Option Reg8
  | 0 => some .b
  | 1 => some .c
  | 2 => some .d
  | 3 => some .e
  | 4 => some .h
  | 5 => some .l
  | 7 => some .a
  | _ => none

/-- `dd`, `ss` of a 2-bit field (R147). -/
def pairOf : Nat → Pair
  | 0 => .bc
  | 1 => .de
  | 2 => .hl
  | _ => .sp

/-- `qq` of a 2-bit field (R147). -/
def stackPairOf : Nat → StackPair
  | 0 => .bc
  | 1 => .de
  | 2 => .hl
  | _ => .af

/-- `pp`, `rr` of a 2-bit field (R147). -/
def idxPairOf : Nat → IdxPair
  | 0 => .bc
  | 1 => .de
  | 2 => .xy
  | _ => .sp

/-- `cc` of a 3-bit field (R148). -/
def condOf : Nat → Cond
  | 0 => .nz
  | 1 => .z
  | 2 => .nc
  | 3 => .c
  | 4 => .po
  | 5 => .pe
  | 6 => .p
  | _ => .m

/-- `jcc` of a 2-bit field (R148). -/
def jcondOf : Nat → JCond
  | 0 => .nz
  | 1 => .z
  | 2 => .nc
  | _ => .c

/-- `rot` of a 3-bit field (R149). -/
def rotOpOf : Nat → RotOp
  | 0 => .rlc
  | 1 => .rrc
  | 2 => .rl
  | 3 => .rr
  | 4 => .sla
  | 5 => .sra
  | 6 => .sll
  | _ => .srl

/-! ## The unprefixed map (R152) -/

/-- `alu A,r` (R149, R152). -/
def aluR (y : Nat) (r : Reg8) : Instr :=
  match y with
  | 0 => .addAR r
  | 1 => .adcAR r
  | 2 => .subR r
  | 3 => .sbcAR r
  | 4 => .andR r
  | 5 => .xorR r
  | 6 => .orR r
  | _ => .cpR r

/-- `alu A,(HL)` (R149, R152). -/
def aluAtHL : Nat → Instr
  | 0 => .addAAtHL
  | 1 => .adcAAtHL
  | 2 => .subAtHL
  | 3 => .sbcAAtHL
  | 4 => .andAtHL
  | 5 => .xorAtHL
  | 6 => .orAtHL
  | _ => .cpAtHL

/-- `alu A,n` (R149, R152). -/
def aluN : Nat → Byte → Instr
  | 0 => .addAN
  | 1 => .adcAN
  | 2 => .subN
  | 3 => .sbcAN
  | 4 => .andN
  | 5 => .xorN
  | 6 => .orN
  | _ => .cpN

/-- `x = 0` (R152). -/
def rowBase0 (y z : Nat) : Row :=
  match z with
  | 0 =>
    match y with
    | 0 => .plain .nop
    | 1 => .plain .exAFAF'
    | 2 => .imm8 .djnzE
    | 3 => .imm8 .jrE
    | _ => .imm8 (.jrJCCE (jcondOf (y % 4)))
  | 1 => if y % 2 = 0 then .imm16 (.ldDDNN (pairOf (y / 2))) else .plain (.addHLSS (pairOf (y / 2)))
  | 2 =>
    match y with
    | 0 => .plain .ldAtBCA
    | 1 => .plain .ldAAtBC
    | 2 => .plain .ldAtDEA
    | 3 => .plain .ldAAtDE
    | 4 => .imm16 .ldAtNNHL
    | 5 => .imm16 .ldHLAtNN
    | 6 => .imm16 .ldAtNNA
    | _ => .imm16 .ldAAtNN
  | 3 => if y % 2 = 0 then .plain (.incSS (pairOf (y / 2))) else .plain (.decSS (pairOf (y / 2)))
  | 4 => match regOf y with
    | some r => .plain (.incR r)
    | none => .plain .incAtHL
  | 5 => match regOf y with
    | some r => .plain (.decR r)
    | none => .plain .decAtHL
  | 6 => match regOf y with
    | some r => .imm8 (.ldRN r)
    | none => .imm8 .ldAtHLN
  | _ =>
    match y with
    | 0 => .plain .rlca
    | 1 => .plain .rrca
    | 2 => .plain .rla
    | 3 => .plain .rra
    | 4 => .plain .daa
    | 5 => .plain .cpl
    | 6 => .plain .scf
    | _ => .plain .ccf

/-- `x = 1` (R152): `HALT` stands where both operands would be `(HL)`. -/
def rowBase1 (y z : Nat) : Row :=
  match regOf y, regOf z with
  | some rd, some rs => .plain (.ldRR rd rs)
  | some rd, none => .plain (.ldRAtHL rd)
  | none, some rs => .plain (.ldAtHLR rs)
  | none, none => .plain .halt

/-- `x = 3` (R152); the four prefix bytes select no row here. -/
def rowBase3 (y z : Nat) (t : Fin 8) : Row :=
  match z with
  | 0 => .plain (.retCC (condOf y))
  | 1 =>
    match y with
    | 1 => .plain .ret
    | 3 => .plain .exx
    | 5 => .plain .jpHL
    | 7 => .plain .ldSPHL
    | _ => .plain (.popQQ (stackPairOf (y / 2)))
  | 2 => .imm16 (.jpCCNN (condOf y))
  | 3 =>
    match y with
    | 0 => .imm16 .jpNN
    | 1 => .absent
    | 2 => .imm8 .outAtNA
    | 3 => .imm8 .inAAtN
    | 4 => .plain .exAtSPHL
    | 5 => .plain .exDEHL
    | 6 => .plain .di
    | _ => .plain .ei
  | 4 => .imm16 (.callCCNN (condOf y))
  | 5 =>
    match y with
    | 1 => .imm16 .callNN
    | 3 => .absent
    | 5 => .absent
    | 7 => .absent
    | _ => .plain (.pushQQ (stackPairOf (y / 2)))
  | 6 => .imm8 (aluN y)
  | _ => .plain (.rstP t)

/-- The unprefixed map (R152). -/
def rowBase (op : Byte) : Row :=
  let y := fieldY op
  let z := fieldZ op
  match fieldX op with
  | 0 => rowBase0 y z
  | 1 => rowBase1 y z
  | 2 => match regOf z with
    | some r => .plain (aluR y r)
    | none => .plain (aluAtHL y)
  | _ => rowBase3 y z (fieldY8 op)

/-! ## The CB map (R153) -/

/-- `rot r` (R149, R153). -/
def rotR (o : RotOp) (r : Reg8) : Instr :=
  match o with
  | .rlc => .rlcR r
  | .rrc => .rrcR r
  | .rl => .rlR r
  | .rr => .rrR r
  | .sla => .slaR r
  | .sra => .sraR r
  | .sll => .sllR r
  | .srl => .srlR r

/-- `rot (HL)` (R149, R153). -/
def rotAtHL : RotOp → Instr
  | .rlc => .rlcAtHL
  | .rrc => .rrcAtHL
  | .rl => .rlAtHL
  | .rr => .rrAtHL
  | .sla => .slaAtHL
  | .sra => .sraAtHL
  | .sll => .sllAtHL
  | .srl => .srlAtHL

/-- The CB map (R153). -/
def rowCB (op : Byte) : Row :=
  let b := fieldY8 op
  match fieldX op, regOf (fieldZ op) with
  | 0, some r => .plain (rotR (rotOpOf (fieldY op)) r)
  | 0, none => .plain (rotAtHL (rotOpOf (fieldY op)))
  | 1, some r => .plain (.bitBR b r)
  | 1, none => .plain (.bitBAtHL b)
  | 2, some r => .plain (.resBR b r)
  | 2, none => .plain (.resBAtHL b)
  | _, some r => .plain (.setBR b r)
  | _, none => .plain (.setBAtHL b)

/-! ## The ED map (R154) -/

/-- `x = 1` (R154), with the mirrors of the extended group. -/
def rowED1 (y z : Nat) (m : Fin 8) : Row :=
  match z with
  | 0 => match regOf y with
    | some r => .plain (.inRAtC r)
    | none => .plain .inFAtC
  | 1 => match regOf y with
    | some r => .plain (.outAtCR r)
    | none => .plain .outAtC0
  | 2 => if y % 2 = 0 then .plain (.sbcHLSS (pairOf (y / 2))) else .plain (.adcHLSS (pairOf (y / 2)))
  | 3 => if y % 2 = 0 then .imm16 (.ldAtNNDD (pairOf (y / 2))) else .imm16 (.ldDDAtNN (pairOf (y / 2)))
  | 4 => if y = 0 then .plain .neg else .plain (.negMirror m)
  | 5 =>
    match y with
    | 0 => .plain .retn
    | 1 => .plain .reti
    | _ => .plain (.retnMirror m)
  | 6 =>
    match y with
    | 0 => .plain .im0
    | 2 => .plain .im1
    | 3 => .plain .im2
    | 6 => .plain .im1Mirror
    | 7 => .plain .im2Mirror
    | _ => .plain (.im0Mirror m)
  | _ =>
    match y with
    | 0 => .plain .ldVectorA
    | 1 => .plain .ldRefreshA
    | 2 => .plain .ldAVector
    | 3 => .plain .ldARefresh
    | 4 => .plain .rrd
    | 5 => .plain .rld
    | _ => .absent

/-- `x = 2` (R154): the block instructions. -/
def rowED2 (op : Byte) : Row :=
  match op.toNat with
  | 0xA0 => .plain .ldi
  | 0xA1 => .plain .cpi
  | 0xA2 => .plain .ini
  | 0xA3 => .plain .outi
  | 0xA8 => .plain .ldd
  | 0xA9 => .plain .cpd
  | 0xAA => .plain .ind
  | 0xAB => .plain .outd
  | 0xB0 => .plain .ldir
  | 0xB1 => .plain .cpir
  | 0xB2 => .plain .inir
  | 0xB3 => .plain .otir
  | 0xB8 => .plain .lddr
  | 0xB9 => .plain .cpdr
  | 0xBA => .plain .indr
  | 0xBB => .plain .otdr
  | _ => .absent

/-- The ED map (R154). -/
def rowED (op : Byte) : Row :=
  match fieldX op with
  | 1 => rowED1 (fieldY op) (fieldZ op) (fieldY8 op)
  | 2 => rowED2 op
  | _ => .absent

/-! ## The DD map (R155) -/

/-- `alu A,(IX+d)` (R155). -/
def aluAtIXd : Nat → Byte → Instr
  | 0 => .addAAtIXd
  | 1 => .adcAAtIXd
  | 2 => .subAtIXd
  | 3 => .sbcAAtIXd
  | 4 => .andAtIXd
  | 5 => .xorAtIXd
  | 6 => .orAtIXd
  | _ => .cpAtIXd

/-- `alu A,HX` (R155). -/
def aluHX : Nat → Instr
  | 0 => .addAHX
  | 1 => .adcAHX
  | 2 => .subHX
  | 3 => .sbcAHX
  | 4 => .andHX
  | 5 => .xorHX
  | 6 => .orHX
  | _ => .cpHX

/-- `alu A,LX` (R155). -/
def aluLX : Nat → Instr
  | 0 => .addALX
  | 1 => .adcALX
  | 2 => .subLX
  | 3 => .sbcALX
  | 4 => .andLX
  | 5 => .xorLX
  | 6 => .orLX
  | _ => .cpLX

/-- `x = 0` (R155). -/
def rowIX0 (op : Byte) : Row :=
  match op.toNat with
  | 0x09 => .plain (.addIXPP .bc)
  | 0x19 => .plain (.addIXPP .de)
  | 0x29 => .plain (.addIXPP .xy)
  | 0x39 => .plain (.addIXPP .sp)
  | 0x21 => .imm16 .ldIXNN
  | 0x22 => .imm16 .ldAtNNIX
  | 0x2A => .imm16 .ldIXAtNN
  | 0x23 => .plain .incIX
  | 0x2B => .plain .decIX
  | 0x34 => .imm8 .incAtIXd
  | 0x35 => .imm8 .decAtIXd
  | 0x36 => .dispImm .ldAtIXdN
  | 0x24 => .plain .incHX
  | 0x25 => .plain .decHX
  | 0x26 => .imm8 .ldHXN
  | 0x2C => .plain .incLX
  | 0x2D => .plain .decLX
  | 0x2E => .imm8 .ldLXN
  | _ => .absent

/-- `x = 1` (R155): a field value 4 or 5 names a half, except beside the memory operand (R146). -/
def rowIX1 (y z : Nat) : Row :=
  match y, z with
  | 4, 4 => .plain .ldHXHX
  | 4, 5 => .plain .ldHXLX
  | 5, 4 => .plain .ldLXHX
  | 5, 5 => .plain .ldLXLX
  | 6, z => match regOf z with
    | some r => .imm8 (.ldAtIXdR r)
    | none => .absent
  | y, 6 => match regOf y with
    | some r => .imm8 (.ldRAtIXd r)
    | none => .absent
  | 4, z => match regOf z with
    | some r => .plain (.ldHXR r)
    | none => .absent
  | 5, z => match regOf z with
    | some r => .plain (.ldLXR r)
    | none => .absent
  | y, 4 => match regOf y with
    | some r => .plain (.ldRHX r)
    | none => .absent
  | y, 5 => match regOf y with
    | some r => .plain (.ldRLX r)
    | none => .absent
  | _, _ => .absent

/-- The DD map (R155). -/
def rowIX (op : Byte) : Row :=
  match fieldX op with
  | 0 => rowIX0 op
  | 1 => rowIX1 (fieldY op) (fieldZ op)
  | 2 =>
    match fieldZ op with
    | 4 => .plain (aluHX (fieldY op))
    | 5 => .plain (aluLX (fieldY op))
    | 6 => .imm8 (aluAtIXd (fieldY op))
    | _ => .absent
  | _ =>
    match op.toNat with
    | 0xE1 => .plain .popIX
    | 0xE3 => .plain .exAtSPIX
    | 0xE5 => .plain .pushIX
    | 0xE9 => .plain .jpIX
    | 0xF9 => .plain .ldSPIX
    | _ => .absent

/-- `rot (IX+d)` (R156). -/
def rotAtIXd (o : RotOp) (d : Byte) : Instr :=
  match o with
  | .rlc => .rlcAtIXd d
  | .rrc => .rrcAtIXd d
  | .rl => .rlAtIXd d
  | .rr => .rrAtIXd d
  | .sla => .slaAtIXd d
  | .sra => .sraAtIXd d
  | .sll => .sllAtIXd d
  | .srl => .srlAtIXd d

/-- The DD CB map (R156): every value has a row. -/
def rowIXCB (d op : Byte) : Instr :=
  let b := fieldY8 op
  match fieldX op, regOf (fieldZ op) with
  | 0, some r => .rotAtIXdR (rotOpOf (fieldY op)) d r
  | 0, none => rotAtIXd (rotOpOf (fieldY op)) d
  | 1, some r => .bitBAtIXdMirror b d r
  | 1, none => .bitBAtIXd b d
  | 2, some r => .resBAtIXdR b d r
  | 2, none => .resBAtIXd b d
  | _, some r => .setBAtIXdR b d r
  | _, none => .setBAtIXd b d

/-! ## The FD map (R155) -/

/-- `alu A,(IY+d)` (R155). -/
def aluAtIYd : Nat → Byte → Instr
  | 0 => .addAAtIYd
  | 1 => .adcAAtIYd
  | 2 => .subAtIYd
  | 3 => .sbcAAtIYd
  | 4 => .andAtIYd
  | 5 => .xorAtIYd
  | 6 => .orAtIYd
  | _ => .cpAtIYd

/-- `alu A,HY` (R155). -/
def aluHY : Nat → Instr
  | 0 => .addAHY
  | 1 => .adcAHY
  | 2 => .subHY
  | 3 => .sbcAHY
  | 4 => .andHY
  | 5 => .xorHY
  | 6 => .orHY
  | _ => .cpHY

/-- `alu A,LY` (R155). -/
def aluLY : Nat → Instr
  | 0 => .addALY
  | 1 => .adcALY
  | 2 => .subLY
  | 3 => .sbcALY
  | 4 => .andLY
  | 5 => .xorLY
  | 6 => .orLY
  | _ => .cpLY

/-- `x = 0` (R155). -/
def rowIY0 (op : Byte) : Row :=
  match op.toNat with
  | 0x09 => .plain (.addIYRR .bc)
  | 0x19 => .plain (.addIYRR .de)
  | 0x29 => .plain (.addIYRR .xy)
  | 0x39 => .plain (.addIYRR .sp)
  | 0x21 => .imm16 .ldIYNN
  | 0x22 => .imm16 .ldAtNNIY
  | 0x2A => .imm16 .ldIYAtNN
  | 0x23 => .plain .incIY
  | 0x2B => .plain .decIY
  | 0x34 => .imm8 .incAtIYd
  | 0x35 => .imm8 .decAtIYd
  | 0x36 => .dispImm .ldAtIYdN
  | 0x24 => .plain .incHY
  | 0x25 => .plain .decHY
  | 0x26 => .imm8 .ldHYN
  | 0x2C => .plain .incLY
  | 0x2D => .plain .decLY
  | 0x2E => .imm8 .ldLYN
  | _ => .absent

/-- `x = 1` (R155): a field value 4 or 5 names a half, except beside the memory operand (R146). -/
def rowIY1 (y z : Nat) : Row :=
  match y, z with
  | 4, 4 => .plain .ldHYHY
  | 4, 5 => .plain .ldHYLY
  | 5, 4 => .plain .ldLYHY
  | 5, 5 => .plain .ldLYLY
  | 6, z => match regOf z with
    | some r => .imm8 (.ldAtIYdR r)
    | none => .absent
  | y, 6 => match regOf y with
    | some r => .imm8 (.ldRAtIYd r)
    | none => .absent
  | 4, z => match regOf z with
    | some r => .plain (.ldHYR r)
    | none => .absent
  | 5, z => match regOf z with
    | some r => .plain (.ldLYR r)
    | none => .absent
  | y, 4 => match regOf y with
    | some r => .plain (.ldRHY r)
    | none => .absent
  | y, 5 => match regOf y with
    | some r => .plain (.ldRLY r)
    | none => .absent
  | _, _ => .absent

/-- The FD map (R155). -/
def rowIY (op : Byte) : Row :=
  match fieldX op with
  | 0 => rowIY0 op
  | 1 => rowIY1 (fieldY op) (fieldZ op)
  | 2 =>
    match fieldZ op with
    | 4 => .plain (aluHY (fieldY op))
    | 5 => .plain (aluLY (fieldY op))
    | 6 => .imm8 (aluAtIYd (fieldY op))
    | _ => .absent
  | _ =>
    match op.toNat with
    | 0xE1 => .plain .popIY
    | 0xE3 => .plain .exAtSPIY
    | 0xE5 => .plain .pushIY
    | 0xE9 => .plain .jpIY
    | 0xF9 => .plain .ldSPIY
    | _ => .absent

/-- `rot (IY+d)` (R156). -/
def rotAtIYd (o : RotOp) (d : Byte) : Instr :=
  match o with
  | .rlc => .rlcAtIYd d
  | .rrc => .rrcAtIYd d
  | .rl => .rlAtIYd d
  | .rr => .rrAtIYd d
  | .sla => .slaAtIYd d
  | .sra => .sraAtIYd d
  | .sll => .sllAtIYd d
  | .srl => .srlAtIYd d

/-- The FD CB map (R156): every value has a row. -/
def rowIYCB (d op : Byte) : Instr :=
  let b := fieldY8 op
  match fieldX op, regOf (fieldZ op) with
  | 0, some r => .rotAtIYdR (rotOpOf (fieldY op)) d r
  | 0, none => rotAtIYd (rotOpOf (fieldY op)) d
  | 1, some r => .bitBAtIYdMirror b d r
  | 1, none => .bitBAtIYd b d
  | 2, some r => .resBAtIYdR b d r
  | 2, none => .resBAtIYd b d
  | _, some r => .setBAtIYdR b d r
  | _, none => .setBAtIYd b d

/-! ## The decoder (R142) -/

/-- The decoder after a DD or FD prefix: `row` is its map, `rowCB` its CB map (R142). -/
def decodeIndexed (row : Byte → Row) (rowCB : Byte → Byte → Instr) : List Byte → Decoded
  | [] => .more
  | b1 :: bs =>
    if b1 = 0xCB then
      match bs with
      | d :: b3 :: rest => .ok (rowCB d b3) rest
      | [_] => .more
      | [] => .more
    else (row b1).complete bs

/-- The decoder after a CB or ED prefix (R142). -/
def decodePrefixed (row : Byte → Row) : List Byte → Decoded
  | [] => .more
  | b1 :: bs => (row b1).complete bs

/-- `Decode` on a byte string (R142): the instruction at its start. -/
def decode : List Byte → Decoded
  | [] => .more
  | b0 :: bs =>
    if b0 = 0xCB then decodePrefixed rowCB bs
    else if b0 = 0xED then decodePrefixed rowED bs
    else if b0 = 0xDD then decodeIndexed rowIX rowIXCB bs
    else if b0 = 0xFD then decodeIndexed rowIY rowIYCB bs
    else (rowBase b0).complete bs

/-! ## The encoder -/

/-- The field value of a register (R145). -/
def Reg8.code : Reg8 → Nat
  | .b => 0
  | .c => 1
  | .d => 2
  | .e => 3
  | .h => 4
  | .l => 5
  | .a => 7

/-- The field value of `dd`, `ss` (R147). -/
def Pair.code : Pair → Nat
  | .bc => 0
  | .de => 1
  | .hl => 2
  | .sp => 3

/-- The field value of `qq` (R147). -/
def StackPair.code : StackPair → Nat
  | .bc => 0
  | .de => 1
  | .hl => 2
  | .af => 3

/-- The field value of `pp`, `rr` (R147). -/
def IdxPair.code : IdxPair → Nat
  | .bc => 0
  | .de => 1
  | .xy => 2
  | .sp => 3

/-- The field value of `cc` (R148). -/
def Cond.code : Cond → Nat
  | .nz => 0
  | .z => 1
  | .nc => 2
  | .c => 3
  | .po => 4
  | .pe => 5
  | .p => 6
  | .m => 7

/-- The field value of `jcc` (R148). -/
def JCond.code : JCond → Nat
  | .nz => 0
  | .z => 1
  | .nc => 2
  | .c => 3

/-- The field value of `rot` (R149). -/
def RotOp.code : RotOp → Nat
  | .rlc => 0
  | .rrc => 1
  | .rl => 2
  | .rr => 3
  | .sla => 4
  | .sra => 5
  | .sll => 6
  | .srl => 7

/-- An opcode byte from its fixed bits and its fields, each at its place. -/
def opByte (n : Nat) : Byte := BitVec.ofNat 8 n

/-- The bytes of an instruction, from the encodings of spec/opcode_table.json (R159). -/
def encode : Instr → List Byte
  | .nop => [0x00]
  | .exAFAF' => [0x08]
  | .djnzE e => [0x10, e]
  | .jrE e => [0x18, e]
  | .jrJCCE jcc e => [opByte (0x20 + 8 * jcc.code), e]
  | .ldDDNN p nn => [opByte (0x01 + 16 * p.code), lo nn, hi nn]
  | .addHLSS p => [opByte (0x09 + 16 * p.code)]
  | .ldAtBCA => [0x02]
  | .ldAAtBC => [0x0A]
  | .ldAtDEA => [0x12]
  | .ldAAtDE => [0x1A]
  | .ldAtNNHL nn => [0x22, lo nn, hi nn]
  | .ldHLAtNN nn => [0x2A, lo nn, hi nn]
  | .ldAtNNA nn => [0x32, lo nn, hi nn]
  | .ldAAtNN nn => [0x3A, lo nn, hi nn]
  | .incSS p => [opByte (0x03 + 16 * p.code)]
  | .decSS p => [opByte (0x0B + 16 * p.code)]
  | .incR r => [opByte (0x04 + 8 * r.code)]
  | .incAtHL => [0x34]
  | .decR r => [opByte (0x05 + 8 * r.code)]
  | .decAtHL => [0x35]
  | .ldRN r n => [opByte (0x06 + 8 * r.code), n]
  | .ldAtHLN n => [0x36, n]
  | .rlca => [0x07]
  | .rrca => [0x0F]
  | .rla => [0x17]
  | .rra => [0x1F]
  | .daa => [0x27]
  | .cpl => [0x2F]
  | .scf => [0x37]
  | .ccf => [0x3F]
  | .ldRR rd rs => [opByte (0x40 + 8 * rd.code + rs.code)]
  | .ldRAtHL r => [opByte (0x46 + 8 * r.code)]
  | .ldAtHLR r => [opByte (0x70 + r.code)]
  | .halt => [0x76]
  | .addAR r => [opByte (0x80 + r.code)]
  | .addAAtHL => [0x86]
  | .addAN n => [0xC6, n]
  | .adcAR r => [opByte (0x88 + r.code)]
  | .adcAAtHL => [0x8E]
  | .adcAN n => [0xCE, n]
  | .subR r => [opByte (0x90 + r.code)]
  | .subAtHL => [0x96]
  | .subN n => [0xD6, n]
  | .sbcAR r => [opByte (0x98 + r.code)]
  | .sbcAAtHL => [0x9E]
  | .sbcAN n => [0xDE, n]
  | .andR r => [opByte (0xA0 + r.code)]
  | .andAtHL => [0xA6]
  | .andN n => [0xE6, n]
  | .xorR r => [opByte (0xA8 + r.code)]
  | .xorAtHL => [0xAE]
  | .xorN n => [0xEE, n]
  | .orR r => [opByte (0xB0 + r.code)]
  | .orAtHL => [0xB6]
  | .orN n => [0xF6, n]
  | .cpR r => [opByte (0xB8 + r.code)]
  | .cpAtHL => [0xBE]
  | .cpN n => [0xFE, n]
  | .retCC cc => [opByte (0xC0 + 8 * cc.code)]
  | .popQQ q => [opByte (0xC1 + 16 * q.code)]
  | .ret => [0xC9]
  | .exx => [0xD9]
  | .jpHL => [0xE9]
  | .ldSPHL => [0xF9]
  | .jpCCNN cc nn => [opByte (0xC2 + 8 * cc.code), lo nn, hi nn]
  | .jpNN nn => [0xC3, lo nn, hi nn]
  | .outAtNA n => [0xD3, n]
  | .inAAtN n => [0xDB, n]
  | .exAtSPHL => [0xE3]
  | .exDEHL => [0xEB]
  | .di => [0xF3]
  | .ei => [0xFB]
  | .callCCNN cc nn => [opByte (0xC4 + 8 * cc.code), lo nn, hi nn]
  | .pushQQ q => [opByte (0xC5 + 16 * q.code)]
  | .callNN nn => [0xCD, lo nn, hi nn]
  | .rstP t => [opByte (0xC7 + 8 * t.val)]
  | .rlcR r => [0xCB, opByte (0x00 + r.code)]
  | .rlcAtHL => [0xCB, 0x06]
  | .rrcR r => [0xCB, opByte (0x08 + r.code)]
  | .rrcAtHL => [0xCB, 0x0E]
  | .rlR r => [0xCB, opByte (0x10 + r.code)]
  | .rlAtHL => [0xCB, 0x16]
  | .rrR r => [0xCB, opByte (0x18 + r.code)]
  | .rrAtHL => [0xCB, 0x1E]
  | .slaR r => [0xCB, opByte (0x20 + r.code)]
  | .slaAtHL => [0xCB, 0x26]
  | .sraR r => [0xCB, opByte (0x28 + r.code)]
  | .sraAtHL => [0xCB, 0x2E]
  | .sllR r => [0xCB, opByte (0x30 + r.code)]
  | .sllAtHL => [0xCB, 0x36]
  | .srlR r => [0xCB, opByte (0x38 + r.code)]
  | .srlAtHL => [0xCB, 0x3E]
  | .bitBR b r => [0xCB, opByte (0x40 + 8 * b.val + r.code)]
  | .bitBAtHL b => [0xCB, opByte (0x46 + 8 * b.val)]
  | .resBR b r => [0xCB, opByte (0x80 + 8 * b.val + r.code)]
  | .resBAtHL b => [0xCB, opByte (0x86 + 8 * b.val)]
  | .setBR b r => [0xCB, opByte (0xC0 + 8 * b.val + r.code)]
  | .setBAtHL b => [0xCB, opByte (0xC6 + 8 * b.val)]
  | .inRAtC r => [0xED, opByte (0x40 + 8 * r.code)]
  | .inFAtC => [0xED, 0x70]
  | .outAtCR r => [0xED, opByte (0x41 + 8 * r.code)]
  | .outAtC0 => [0xED, 0x71]
  | .sbcHLSS p => [0xED, opByte (0x42 + 16 * p.code)]
  | .adcHLSS p => [0xED, opByte (0x4A + 16 * p.code)]
  | .ldAtNNDD p nn => [0xED, opByte (0x43 + 16 * p.code), lo nn, hi nn]
  | .ldDDAtNN p nn => [0xED, opByte (0x4B + 16 * p.code), lo nn, hi nn]
  | .neg => [0xED, 0x44]
  | .negMirror y => [0xED, opByte (0x44 + 8 * y.val)]
  | .retn => [0xED, 0x45]
  | .reti => [0xED, 0x4D]
  | .retnMirror y => [0xED, opByte (0x45 + 8 * y.val)]
  | .im0 => [0xED, 0x46]
  | .im1 => [0xED, 0x56]
  | .im2 => [0xED, 0x5E]
  | .im0Mirror y => [0xED, opByte (0x46 + 8 * y.val)]
  | .im1Mirror => [0xED, 0x76]
  | .im2Mirror => [0xED, 0x7E]
  | .ldVectorA => [0xED, 0x47]
  | .ldRefreshA => [0xED, 0x4F]
  | .ldAVector => [0xED, 0x57]
  | .ldARefresh => [0xED, 0x5F]
  | .rrd => [0xED, 0x67]
  | .rld => [0xED, 0x6F]
  | .ldi => [0xED, 0xA0]
  | .cpi => [0xED, 0xA1]
  | .ini => [0xED, 0xA2]
  | .outi => [0xED, 0xA3]
  | .ldd => [0xED, 0xA8]
  | .cpd => [0xED, 0xA9]
  | .ind => [0xED, 0xAA]
  | .outd => [0xED, 0xAB]
  | .ldir => [0xED, 0xB0]
  | .cpir => [0xED, 0xB1]
  | .inir => [0xED, 0xB2]
  | .otir => [0xED, 0xB3]
  | .lddr => [0xED, 0xB8]
  | .cpdr => [0xED, 0xB9]
  | .indr => [0xED, 0xBA]
  | .otdr => [0xED, 0xBB]
  | .addIXPP p => [0xDD, opByte (0x09 + 16 * p.code)]
  | .ldIXNN nn => [0xDD, 0x21, lo nn, hi nn]
  | .ldAtNNIX nn => [0xDD, 0x22, lo nn, hi nn]
  | .ldIXAtNN nn => [0xDD, 0x2A, lo nn, hi nn]
  | .incIX => [0xDD, 0x23]
  | .decIX => [0xDD, 0x2B]
  | .incAtIXd d => [0xDD, 0x34, d]
  | .decAtIXd d => [0xDD, 0x35, d]
  | .ldAtIXdN d n => [0xDD, 0x36, d, n]
  | .ldRAtIXd r d => [0xDD, opByte (0x46 + 8 * r.code), d]
  | .ldAtIXdR r d => [0xDD, opByte (0x70 + r.code), d]
  | .addAAtIXd d => [0xDD, 0x86, d]
  | .addAHX => [0xDD, 0x84]
  | .addALX => [0xDD, 0x85]
  | .adcAAtIXd d => [0xDD, 0x8E, d]
  | .adcAHX => [0xDD, 0x8C]
  | .adcALX => [0xDD, 0x8D]
  | .subAtIXd d => [0xDD, 0x96, d]
  | .subHX => [0xDD, 0x94]
  | .subLX => [0xDD, 0x95]
  | .sbcAAtIXd d => [0xDD, 0x9E, d]
  | .sbcAHX => [0xDD, 0x9C]
  | .sbcALX => [0xDD, 0x9D]
  | .andAtIXd d => [0xDD, 0xA6, d]
  | .andHX => [0xDD, 0xA4]
  | .andLX => [0xDD, 0xA5]
  | .xorAtIXd d => [0xDD, 0xAE, d]
  | .xorHX => [0xDD, 0xAC]
  | .xorLX => [0xDD, 0xAD]
  | .orAtIXd d => [0xDD, 0xB6, d]
  | .orHX => [0xDD, 0xB4]
  | .orLX => [0xDD, 0xB5]
  | .cpAtIXd d => [0xDD, 0xBE, d]
  | .cpHX => [0xDD, 0xBC]
  | .cpLX => [0xDD, 0xBD]
  | .popIX => [0xDD, 0xE1]
  | .exAtSPIX => [0xDD, 0xE3]
  | .pushIX => [0xDD, 0xE5]
  | .jpIX => [0xDD, 0xE9]
  | .ldSPIX => [0xDD, 0xF9]
  | .incHX => [0xDD, 0x24]
  | .decHX => [0xDD, 0x25]
  | .ldHXN n => [0xDD, 0x26, n]
  | .incLX => [0xDD, 0x2C]
  | .decLX => [0xDD, 0x2D]
  | .ldLXN n => [0xDD, 0x2E, n]
  | .ldRHX r => [0xDD, opByte (0x44 + 8 * r.code)]
  | .ldRLX r => [0xDD, opByte (0x45 + 8 * r.code)]
  | .ldHXR r => [0xDD, opByte (0x60 + r.code)]
  | .ldLXR r => [0xDD, opByte (0x68 + r.code)]
  | .ldHXHX => [0xDD, 0x64]
  | .ldHXLX => [0xDD, 0x65]
  | .ldLXHX => [0xDD, 0x6C]
  | .ldLXLX => [0xDD, 0x6D]
  | .rlcAtIXd d => [0xDD, 0xCB, d, 0x06]
  | .rrcAtIXd d => [0xDD, 0xCB, d, 0x0E]
  | .rlAtIXd d => [0xDD, 0xCB, d, 0x16]
  | .rrAtIXd d => [0xDD, 0xCB, d, 0x1E]
  | .slaAtIXd d => [0xDD, 0xCB, d, 0x26]
  | .sraAtIXd d => [0xDD, 0xCB, d, 0x2E]
  | .sllAtIXd d => [0xDD, 0xCB, d, 0x36]
  | .srlAtIXd d => [0xDD, 0xCB, d, 0x3E]
  | .rotAtIXdR o d r => [0xDD, 0xCB, d, opByte (0x00 + 8 * o.code + r.code)]
  | .bitBAtIXd b d => [0xDD, 0xCB, d, opByte (0x46 + 8 * b.val)]
  | .resBAtIXd b d => [0xDD, 0xCB, d, opByte (0x86 + 8 * b.val)]
  | .setBAtIXd b d => [0xDD, 0xCB, d, opByte (0xC6 + 8 * b.val)]
  | .bitBAtIXdMirror b d r => [0xDD, 0xCB, d, opByte (0x40 + 8 * b.val + r.code)]
  | .resBAtIXdR b d r => [0xDD, 0xCB, d, opByte (0x80 + 8 * b.val + r.code)]
  | .setBAtIXdR b d r => [0xDD, 0xCB, d, opByte (0xC0 + 8 * b.val + r.code)]
  | .addIYRR p => [0xFD, opByte (0x09 + 16 * p.code)]
  | .ldIYNN nn => [0xFD, 0x21, lo nn, hi nn]
  | .ldAtNNIY nn => [0xFD, 0x22, lo nn, hi nn]
  | .ldIYAtNN nn => [0xFD, 0x2A, lo nn, hi nn]
  | .incIY => [0xFD, 0x23]
  | .decIY => [0xFD, 0x2B]
  | .incAtIYd d => [0xFD, 0x34, d]
  | .decAtIYd d => [0xFD, 0x35, d]
  | .ldAtIYdN d n => [0xFD, 0x36, d, n]
  | .ldRAtIYd r d => [0xFD, opByte (0x46 + 8 * r.code), d]
  | .ldAtIYdR r d => [0xFD, opByte (0x70 + r.code), d]
  | .addAAtIYd d => [0xFD, 0x86, d]
  | .addAHY => [0xFD, 0x84]
  | .addALY => [0xFD, 0x85]
  | .adcAAtIYd d => [0xFD, 0x8E, d]
  | .adcAHY => [0xFD, 0x8C]
  | .adcALY => [0xFD, 0x8D]
  | .subAtIYd d => [0xFD, 0x96, d]
  | .subHY => [0xFD, 0x94]
  | .subLY => [0xFD, 0x95]
  | .sbcAAtIYd d => [0xFD, 0x9E, d]
  | .sbcAHY => [0xFD, 0x9C]
  | .sbcALY => [0xFD, 0x9D]
  | .andAtIYd d => [0xFD, 0xA6, d]
  | .andHY => [0xFD, 0xA4]
  | .andLY => [0xFD, 0xA5]
  | .xorAtIYd d => [0xFD, 0xAE, d]
  | .xorHY => [0xFD, 0xAC]
  | .xorLY => [0xFD, 0xAD]
  | .orAtIYd d => [0xFD, 0xB6, d]
  | .orHY => [0xFD, 0xB4]
  | .orLY => [0xFD, 0xB5]
  | .cpAtIYd d => [0xFD, 0xBE, d]
  | .cpHY => [0xFD, 0xBC]
  | .cpLY => [0xFD, 0xBD]
  | .popIY => [0xFD, 0xE1]
  | .exAtSPIY => [0xFD, 0xE3]
  | .pushIY => [0xFD, 0xE5]
  | .jpIY => [0xFD, 0xE9]
  | .ldSPIY => [0xFD, 0xF9]
  | .incHY => [0xFD, 0x24]
  | .decHY => [0xFD, 0x25]
  | .ldHYN n => [0xFD, 0x26, n]
  | .incLY => [0xFD, 0x2C]
  | .decLY => [0xFD, 0x2D]
  | .ldLYN n => [0xFD, 0x2E, n]
  | .ldRHY r => [0xFD, opByte (0x44 + 8 * r.code)]
  | .ldRLY r => [0xFD, opByte (0x45 + 8 * r.code)]
  | .ldHYR r => [0xFD, opByte (0x60 + r.code)]
  | .ldLYR r => [0xFD, opByte (0x68 + r.code)]
  | .ldHYHY => [0xFD, 0x64]
  | .ldHYLY => [0xFD, 0x65]
  | .ldLYHY => [0xFD, 0x6C]
  | .ldLYLY => [0xFD, 0x6D]
  | .rlcAtIYd d => [0xFD, 0xCB, d, 0x06]
  | .rrcAtIYd d => [0xFD, 0xCB, d, 0x0E]
  | .rlAtIYd d => [0xFD, 0xCB, d, 0x16]
  | .rrAtIYd d => [0xFD, 0xCB, d, 0x1E]
  | .slaAtIYd d => [0xFD, 0xCB, d, 0x26]
  | .sraAtIYd d => [0xFD, 0xCB, d, 0x2E]
  | .sllAtIYd d => [0xFD, 0xCB, d, 0x36]
  | .srlAtIYd d => [0xFD, 0xCB, d, 0x3E]
  | .rotAtIYdR o d r => [0xFD, 0xCB, d, opByte (0x00 + 8 * o.code + r.code)]
  | .bitBAtIYd b d => [0xFD, 0xCB, d, opByte (0x46 + 8 * b.val)]
  | .resBAtIYd b d => [0xFD, 0xCB, d, opByte (0x86 + 8 * b.val)]
  | .setBAtIYd b d => [0xFD, 0xCB, d, opByte (0xC6 + 8 * b.val)]
  | .bitBAtIYdMirror b d r => [0xFD, 0xCB, d, opByte (0x40 + 8 * b.val + r.code)]
  | .resBAtIYdR b d r => [0xFD, 0xCB, d, opByte (0x80 + 8 * b.val + r.code)]
  | .setBAtIYdR b d r => [0xFD, 0xCB, d, opByte (0xC0 + 8 * b.val + r.code)]

/-! ## The table's numbering -/

/-- The bytes of a `nbits`-bit word whose FIRST byte is the most significant, as the `fixed` entries
of spec/opcode_table.json place them. -/
def bytesFirstHigh (nbytes w : Nat) : List Byte :=
  (List.range nbytes).map fun k => BitVec.ofNat 8 (w / 256 ^ (nbytes - 1 - k))

/-- The bytes of a word whose first byte is the least significant. -/
def bytesFirstLow (nbytes w : Nat) : List Byte :=
  (List.range nbytes).map fun k => BitVec.ofNat 8 (w / 256 ^ k)

/-- The bytes decode to an instruction that is all of them. -/
def decodesWhole (bs : List Byte) : Bool :=
  match decode bs with
  | .ok _ [] => true
  | .ok _ (_ :: _) => false
  | .more => false
  | .unknown => false

/-- The memory bytes of a table word, four of them, the absent ones zero. The table's own `fixed`
entries put the first byte in the highest bits; a word that is an instruction of that length only
when its lowest byte comes first is read that way (log entry 10). -/
def tableBytes (nbits w : Nat) : List Byte :=
  let n := nbits / 8
  let bs := if decodesWhole (bytesFirstHigh n w) then bytesFirstHigh n w
    else if decodesWhole (bytesFirstLow n w) then bytesFirstLow n w
    else bytesFirstHigh n w
  (bs ++ [0x00, 0x00, 0x00, 0x00]).take 4

/-- The instruction the decoder reads from a word of the opcode table. -/
def decodeTableWord (nbits w : Nat) : Option Instr :=
  match decode (tableBytes nbits w) with
  | .ok i _ => some i
  | .more => none
  | .unknown => none

end Sys2Proof
end

