-- ==== Sys2Proof/Machine/Fetch.lean ====
section
/-! DEFINITION. The fetch: decoding the bytes at PC, read one at a time through the memory router
(R119, R142), the admission of the extended group (R141), and the refresh count (R38). -/

namespace Sys2Proof.Machine

/-- The row is admitted under this machine's UNDOC_EXTENDED (R141). -/
def State.admits (s : State) (i : Instr) : Bool := s.cfg.undocExtended || !i.extended

/-- The first fetch after power-on of a machine without a ROM (R714): the clock is still 0, which
every instruction moves on (R730) and no reset puts back (R715). -/
def State.bareFirstFetch (s : State) : Bool :=
  s.romSize == 0 && s.clock == 0 && s.cpu.pc == 0

/-- The byte of an instruction at `a`: read through the memory router (R119), but for the first
fetch without a ROM, whose bytes R714 calls RAM_INIT, OPEN, where R80 and R83 make the address
unmapped. A free value is either (log entry 5). -/
def State.fetchByte (s : State) (a : Word) : Byte :=
  if s.bareFirstFetch then Config.ramInit a.toNat else s.readByte a

/-- `Decode(PC)` after the bytes `got` have been read (R142): the next byte is read only while the
bytes so far are no whole instruction, at most `fuel` more; the instruction, its length and the
state after the reads. -/
def State.fetchFrom : Nat → List Byte → State → Except Fault (Instr × Nat × State)
  | 0, got, s => .error (s.fatal (.unknownOpcode got))
  | fuel + 1, got, s =>
    let a := s.cpu.pc + BitVec.ofNat 16 got.length
    let bytes := got ++ [s.fetchByte a]
    let s1 := s.afterRead a
    match decode bytes with
    | .more => State.fetchFrom fuel bytes s1
    | .unknown => .error (s1.fatal (.unknownOpcode bytes))
    | .ok i _ =>
      if s1.admits i then .ok (i, bytes.length, s1) else .error (s1.fatal (.unknownOpcode bytes))

/-- `Decode(PC)` (R142): an instruction has at most 4 bytes (R140). -/
def State.fetch (s : State) : Except Fault (Instr × Nat × State) := State.fetchFrom 4 [] s

/-- How many opcode fetches an instruction makes: two with a prefix (R38). -/
def opcodeFetches (i : Instr) : Nat :=
  match encode i with
  | b0 :: _ => if b0 ∈ [0xCB, 0xED, 0xDD, 0xFD] then 2 else 1
  | [] => 1

/-- Under R_POLICY `count` bits 6..0 of R grow by the fetches of the instruction (R38; log
entry 12); under `draw` they are never read. -/
def State.countRefresh (s : State) (i : Instr) : State :=
  match s.cfg.rPolicy with
  | .draw => s
  | .count =>
    { s with
      cpu := { s.cpu with
        r := (s.cpu.r &&& 0x80) ||| ((s.cpu.r + BitVec.ofNat 8 (opcodeFetches i)) &&& 0x7F) } }

end Sys2Proof.Machine
end

