-- ==== Sys2Proof/Machine/HostActions.lean ====
section
/-! DEFINITION. What the host does between steps (R542): media, keys, reset and boot (R710 to
R713), breakpoints, shutdown; and the machine creation with a ROM image (R710, R716). -/

namespace Sys2Proof.Machine

/-! ## Reset and boot -/

/-- An output emitted when `b` holds. -/
def State.emitIf (s : State) (b : Bool) (o : Output) : State := if b then s.emit o else s

/-- `DeviceReset()` (R711): media, JV3 tables, head positions, memory and `seqNo` are kept. -/
def State.deviceReset (s : State) : State :=
  let s1 := s.emitIf s.fdc.motorOn (.motorLight s.fdc.drive.val false)
  let s2 := s1.emitIf s.cas.motor (.motorLight (-1) false)
  let s3 := s2.emitIf (s.modeImage.getLsbD 2) (.expanded false)
  { s3 with
    lat := .cleared
    modeImage := 0x00
    events := []
    fdc := .cleared
    cas := { Cassette.cleared with source := s.cas.source, tape := s.cas.tape }
    kbd := .cleared }

/-- `running <- 1; skipBreak <- 1` (R712, R713). -/
def State.resume (s : State) : State := { s with running := true, skipBreak := true }

/-- `ResetButton()` (R712). -/
def State.resetButton (s : State) : State := (s.deviceReset.raiseNmi 0x20).resume

/-- Boot (R713). -/
def State.boot (s : State) : State := s.resume

/-- Machine creation, the power-on reset (R710), with the parameters that are OPEN or have several
admitted values: the policies, ROM_IMAGE, copied to address 0 (R48, R716), and RAM_INIT (R8,
R9; log entries 1, 2, 4). -/
def State.powerOn (cfg : Config) (rom : List Byte) (ram : Memory) : State :=
  { State.reset with cfg := cfg, romSize := rom.length, mem := ram.setBytes 0 rom }

/-! ## Media -/

/-- The slot of a mountable drive: the host mounts drives 0 and 1 (R542). -/
def slot (d : Fin 2) : Fin 4 := ⟨d.val, by omega⟩

/-- `Mount(d, img)` (R625). -/
def State.mountDisk (s : State) (d : Fin 2) (img : List Byte) : Except Fault State :=
  match (s.drv[slot d]).mount img with
  | some dr => .ok { s with drv := s.drv.set (slot d) dr }
  | none => .error (s.fatal (.badDiskImage img.length))

/-- `Unmount(d)` (R625). -/
def State.unmountDisk (s : State) (d : Fin 2) : State :=
  { s with drv := s.drv.set (slot d) (s.drv[slot d]).unmount }

/-- `mount cassette(src)` (R660): the source only. -/
def State.mountCassette (s : State) (src : Option (List Byte)) : State :=
  { s with cas := { s.cas with source := src } }

/-! ## The actions -/

/-- `add_breakpoint(a)` (R543): a set, kept as a list with no repeats. -/
def State.addBreakpoint (s : State) (pc : Word) : State :=
  if pc ∈ s.breakpoints then s else { s with breakpoints := s.breakpoints ++ [pc] }

/-- One host action (R542). `tron` has no effect on state. -/
def State.hostAction (s : State) : HostAction → Except Fault State
  | .mountDisk d img => s.mountDisk d img
  | .unmountDisk d => .ok (s.unmountDisk d)
  | .mountCassette src => .ok (s.mountCassette src)
  | .press k => .ok (s.keyAction k true)
  | .release k => .ok (s.keyAction k false)
  | .reset => .ok s.resetButton
  | .boot => .ok s.boot
  | .addBreakpoint pc => .ok (s.addBreakpoint pc)
  | .shutdown => .ok { s with running := false, shutDown := true }
  | .tron => .ok s

/-- The actions of one batch in order; after a shutdown nothing more happens (R542). -/
def State.hostActions : State → List HostAction → Except Fault State
  | s, [] => .ok s
  | s, x :: l =>
    if s.shutDown then .ok s
    else
      match s.hostAction x with
      | .ok t => State.hostActions t l
      | .error f => .error f

/-- The step boundary: the next batch of host actions is drained (R542; log entry 8). -/
def State.drainInbox (s : State) : Except Fault State :=
  match s.inbox with
  | [] => .ok s
  | batch :: rest => { s with inbox := rest }.hostActions batch

end Sys2Proof.Machine
end

