-- ==== Sys2Proof/Machine/Interrupts.lean ====
section
/-! DEFINITION. What a step does after its instruction (R530): the event dispatch (R562), the
interrupt check with NMI and IRQ entry (R520 to R522, R531), the cassette update and the timer
(R514). -/

namespace Sys2Proof.Machine

/-! ## Event dispatch -/

/-- An event's action (R566). -/
def State.runAction (s : State) : EventAction → State
  | .diskDone bits => s.diskDoneAction bits
  | .lostData => s.lostDataAction
  | .firstDrq => s.firstDrqAction
  | .kickOff => s.kickOffAction

/-- `Dispatch(clock)` for at most `fuel` events (R562). -/
def State.dispatchN : Nat → State → State
  | 0, s => s
  | fuel + 1, s =>
    match s.events with
    | [] => s
    | e :: rest =>
      if e.fireClock ≤ s.clock then State.dispatchN fuel ({ s with events := rest }.runAction e.action)
      else s

/-- `Dispatch(clock)` (R562). The queue's length bounds the loop: the one action that schedules
during dispatch does so LOSTDATA_DELAY > 0 cycles later (R599), so nothing it adds is due. -/
def State.dispatch (s : State) : State := State.dispatchN s.events.length s

/-! ## Interrupt entry -/

/-- `NmiEntry()` (R520). -/
def State.nmiEntry (s : State) : State :=
  let s1 := s.enterHandler 0x0066 s.cpu.iff1
  let s2 := { s1 with lat := { s1.lat with nmiSeen := true } }
  let s3 := if s2.lat.nmiLatch.getLsbD 5 then s2.clearNmi 0x20 else s2
  s3.tick s3.cfg.nmiAckCycles

/-- `IrqEntry()` (R521, R522). -/
def State.irqEntry (s : State) : Except Fault State :=
  if s.cpu.im = .im1 then
    let s1 := s.enterHandler 0x0038 (if s.cfg.irqClearsIff2 then false else s.cpu.iff2)
    .ok (s1.tick s1.cfg.irqAckCycles)
  else .error (s.fatal (.interruptMode s.cpu.im))

/-- A maskable interrupt is accepted (R531). -/
def State.irqAccepted (s : State) : Bool :=
  s.lat.irqPending && s.cpu.iff1 && !s.cpu.eiShadow

/-- `InterruptCheck()` (R531). -/
def State.interruptCheck (s : State) : Except Fault State :=
  (if s.lat.nmiPending then .ok s.nmiEntry
    else if s.irqAccepted then s.irqEntry
    else .ok s).map
    fun t => { t with cpu := { t.cpu with eiShadow := false } }

/-! ## The 30 Hz timer -/

/-- `TimerCheck()` (R514). -/
def State.timerCheck (s : State) : State :=
  if s.nextTimer ≤ s.clock then
    let s1 := (s.raiseIrq 0x04).checkDiskMotorOff
    { s1 with nextTimer := s1.nextTimer + Config.timerPeriod }
  else s

/-- The stages of a step after the instruction and its cycles (R530). -/
def State.afterInstruction (s : State) : Except Fault State :=
  s.dispatch.interruptCheck.map fun t => t.cassetteUpdate.timerCheck

end Sys2Proof.Machine
end

