-- ==== Sys2Proof/Machine/Step.lean ====
section
/-! DEFINITION. One step of the machine (R530, R542, R543). -/

namespace Sys2Proof.Machine

/-- `exec` and, when it answers a next state, the stages after the instruction (R530). -/
def execThen (i : Instr) (s : State) : Host.Outcome State Fault Refusal :=
  match exec i s with
  | .next t => finish t.afterInstruction
  | .fault f => .fault f
  | .refused r => .refused r

/-- `Step()` of R530: decode, PC past the instruction (R150), execute, then the stages after it. -/
def State.runInstruction (s : State) : Host.Outcome State Fault Refusal :=
  match s.fetch with
  | .error f => .fault f
  | .ok (i, len, s1) =>
    execThen i ((s1.countRefresh i).setPC (s1.cpu.pc + BitVec.ofNat 16 len))

/-- A step is taken only while the machine runs and no breakpoint stops it (R543). -/
def State.runStep (s : State) : Host.Outcome State Fault Refusal :=
  if !s.running then .next s
  else if s.cpu.pc ∈ s.breakpoints ∧ s.skipBreak = false then
    .next ({ s with running := false }.emit (.breakpoint s.cpu.pc))
  else { s with skipBreak := false }.runInstruction

/-- The step: a machine with a fault takes no further step (R51, R500); after a shutdown nothing
happens (R542); otherwise the host's actions at this boundary, then the instruction. -/
def step (s : State) : Host.Outcome State Fault Refusal :=
  match s.fault with
  | some r => .fault (.fatal r s)
  | none =>
    if s.shutDown then .next s
    else
      match s.drainInbox with
      | .error f => .fault f
      | .ok t => t.runStep

/-! ## Placing an instruction where the step fetches -/

/-- The ROM size that makes the addresses `a` to `a + 3` plain memory: below 3C00 they are ROM. -/
def romCovering (romSize : Nat) (a : Word) : Nat :=
  [a, a + 1, a + 2, a + 3].foldl (fun n x => if x.toNat < 0x3C00 then max n (x.toNat + 1) else n)
    romSize

/-- `s` with a word of the opcode table stored at PC, as a loaded ROM would hold it, and the machine
running: the next step fetches and runs that instruction (log entries 2, 6, 10). -/
def State.withFetchWord (s : State) (nbits w : Nat) : State :=
  let bytes := tableBytes nbits w
  let extended :=
    match decode bytes with
    | .ok i _ => i.extended
    | .more => false
    | .unknown => false
  { s with
    mem := s.mem.setBytes s.cpu.pc bytes
    romSize := romCovering s.romSize s.cpu.pc
    cfg := { s.cfg with undocExtended := s.cfg.undocExtended || extended }
    fault := none
    shutDown := false
    inbox := []
    running := true
    skipBreak := true }

end Sys2Proof.Machine
end

