-- ==== Sys2Proof/Machine/Timing.lean ====
section
/-! DEFINITION. The cycle columns of spec/opcode_table.json (R730): base cycles and taken extra of
every row. The meanings add their cycles themselves; this table is what statements about the clock
compare them with. -/

namespace Sys2Proof

/-- `cycles(row)` (R730). -/
def Instr.cycles : Instr → Nat
  | .incR _ | .decR _ | .ldRR _ _ | .addAR _ | .adcAR _ | .subR _ | .sbcAR _ | .andR _ | .xorR _
  | .orR _ | .cpR _ | .nop | .exAFAF' | .rlca | .rrca | .rla | .rra | .daa | .cpl | .scf | .ccf
  | .halt | .exx | .jpHL | .exDEHL | .di | .ei => 4
  | .retCC _ => 5
  | .incSS _ | .decSS _ | .ldSPHL => 6
  | .jrJCCE _ _ | .ldRN _ _ | .ldRAtHL _ | .ldAtHLR _ | .addAN _ | .adcAN _ | .subN _ | .sbcAN _
  | .andN _ | .xorN _ | .orN _ | .cpN _ | .ldAtBCA | .ldAAtBC | .ldAtDEA | .ldAAtDE | .addAAtHL
  | .adcAAtHL | .subAtHL | .sbcAAtHL | .andAtHL | .xorAtHL | .orAtHL | .cpAtHL => 7
  | .djnzE _ | .rlcR _ | .rrcR _ | .rlR _ | .rrR _ | .slaR _ | .sraR _ | .sllR _ | .srlR _
  | .bitBR _ _ | .resBR _ _ | .setBR _ _ | .negMirror _ | .im0Mirror _ | .ldRHX _ | .ldRLX _
  | .ldHXR _ | .ldLXR _ | .ldRHY _ | .ldRLY _ | .ldHYR _ | .ldLYR _ | .neg | .im0 | .im1 | .im2
  | .im1Mirror | .im2Mirror | .addAHX | .addALX | .adcAHX | .adcALX | .subHX | .subLX | .sbcAHX
  | .sbcALX | .andHX | .andLX | .xorHX | .xorLX | .orHX | .orLX | .cpHX | .cpLX | .jpIX | .incHX
  | .decHX | .incLX | .decLX | .ldHXHX | .ldHXLX | .ldLXHX | .ldLXLX | .addAHY | .addALY
  | .adcAHY | .adcALY | .subHY | .subLY | .sbcAHY | .sbcALY | .andHY | .andLY | .xorHY | .xorLY
  | .orHY | .orLY | .cpHY | .cpLY | .jpIY | .incHY | .decHY | .incLY | .decLY | .ldHYHY | .ldHYLY
  | .ldLYHY | .ldLYLY => 8
  | .ldVectorA | .ldRefreshA | .ldAVector | .ldARefresh => 9
  | .ldDDNN _ _ | .ldAtHLN _ | .popQQ _ | .jpCCNN _ _ | .jpNN _ | .callCCNN _ _ | .ret | .incIX
  | .decIX | .ldSPIX | .incIY | .decIY | .ldSPIY => 10
  | .addHLSS _ | .outAtNA _ | .inAAtN _ | .pushQQ _ | .rstP _ | .ldHXN _ | .ldLXN _ | .ldHYN _
  | .ldLYN _ | .incAtHL | .decAtHL => 11
  | .jrE _ | .bitBAtHL _ | .inRAtC _ | .outAtCR _ | .inFAtC | .outAtC0 => 12
  | .ldAtNNA _ | .ldAAtNN _ => 13
  | .retnMirror _ | .ldIXNN _ | .ldIYNN _ | .retn | .reti | .popIX | .popIY => 14
  | .resBAtHL _ | .setBAtHL _ | .sbcHLSS _ | .adcHLSS _ | .addIXPP _ | .addIYRR _ | .rlcAtHL
  | .rrcAtHL | .rlAtHL | .rrAtHL | .slaAtHL | .sraAtHL | .sllAtHL | .srlAtHL | .pushIX | .pushIY => 15
  | .ldAtNNHL _ | .ldHLAtNN _ | .ldi | .cpi | .ini | .outi | .ldd | .cpd | .ind | .outd | .ldir
  | .cpir | .inir | .otir | .lddr | .cpdr | .indr | .otdr => 16
  | .callNN _ => 17
  | .rrd | .rld => 18
  | .ldAtIXdN _ _ | .ldRAtIXd _ _ | .ldAtIXdR _ _ | .addAAtIXd _ | .adcAAtIXd _ | .subAtIXd _
  | .sbcAAtIXd _ | .andAtIXd _ | .xorAtIXd _ | .orAtIXd _ | .cpAtIXd _ | .ldAtIYdN _ _
  | .ldRAtIYd _ _ | .ldAtIYdR _ _ | .addAAtIYd _ | .adcAAtIYd _ | .subAtIYd _ | .sbcAAtIYd _
  | .andAtIYd _ | .xorAtIYd _ | .orAtIYd _ | .cpAtIYd _ | .exAtSPHL => 19
  | .ldAtNNDD _ _ | .ldDDAtNN _ _ | .ldAtNNIX _ | .ldIXAtNN _ | .bitBAtIXd _ _
  | .bitBAtIXdMirror _ _ _ | .ldAtNNIY _ | .ldIYAtNN _ | .bitBAtIYd _ _ | .bitBAtIYdMirror _ _ _ => 20
  | .incAtIXd _ | .decAtIXd _ | .rlcAtIXd _ | .rrcAtIXd _ | .rlAtIXd _ | .rrAtIXd _ | .slaAtIXd _
  | .sraAtIXd _ | .sllAtIXd _ | .srlAtIXd _ | .rotAtIXdR _ _ _ | .resBAtIXd _ _ | .setBAtIXd _ _
  | .resBAtIXdR _ _ _ | .setBAtIXdR _ _ _ | .incAtIYd _ | .decAtIYd _ | .rlcAtIYd _ | .rrcAtIYd _
  | .rlAtIYd _ | .rrAtIYd _ | .slaAtIYd _ | .sraAtIYd _ | .sllAtIYd _ | .srlAtIYd _
  | .rotAtIYdR _ _ _ | .resBAtIYd _ _ | .setBAtIYd _ _ | .resBAtIYdR _ _ _ | .setBAtIYdR _ _ _
  | .exAtSPIX | .exAtSPIY => 23

/-- `extra(row)` (R730). -/
def Instr.takenExtra : Instr → Nat
  | .djnzE _ | .jrJCCE _ _ | .ldir | .cpir | .inir | .otir | .lddr | .cpdr | .indr | .otdr => 5
  | .retCC _ => 6
  | .callCCNN _ _ => 7
  | _ => 0

end Sys2Proof
end

