-- ==== Sys2Proof/Safety.lean ====
section
/-! DEFINITION. The terms statements are made in: which addresses stores reach, what a frame leaves
alone, the bits of a flag byte, when a port access is admitted, when a step runs an instruction, and
the invariant every step keeps. -/

namespace Sys2Proof.Machine

/-! ## Memory -/

/-- Addresses whose stores land: RAM and screen (R81). -/
def State.writable (s : State) (a : Word) : Bool :=
  match s.region a with
  | .ram | .screen => true
  | .rom | .keyboard | .printer | .unmapped => false

/-- Every byte but those at `stored` is unchanged: its cell, and what a read of it gives. A read of
the keyboard region depends on the clock and the key queue (R693), so for it only the cell counts. -/
def SameBytes (s t : State) (stored : List Word) : Prop :=
  ∀ b : Word, b ∉ stored →
    t.mem.get b.toNat = s.mem.get b.toNat ∧
      (s.region b ≠ .keyboard → t.readByte b = s.readByte b)

/-- The bytes a fetch reads at `a` and up are `bs`, none of them in the keyboard region. -/
def State.CodeAt (s : State) : Word → List Byte → Prop
  | _, [] => True
  | a, b :: bs => s.region a ≠ .keyboard ∧ s.fetchByte a = b ∧ s.CodeAt (a + 1) bs

/-- `i` takes `s` to `t`, and stores to the bytes at `stored` alone. -/
def Runs (i : Instr) (s t : State) (stored : List Word) : Prop :=
  exec i s = .next t ∧ SameBytes s t stored

/-! ## Operand forms -/

/-- The operand `m` of R374: a register, `(HL)` or `(XY+d)`. -/
inductive MOperand where
  | reg (r : Reg8)
  | atHL
  | atIdx (x : Idx) (d : Byte)
deriving DecidableEq, Repr

namespace MOperand

/-- Where a memory form lies. -/
def addr (s : State) : MOperand → Option Word
  | .reg _ => none
  | .atHL => some (pair s.cpu.h s.cpu.l)
  | .atIdx .ix d => some (s.cpu.ix + sext16 d)
  | .atIdx .iy d => some (s.cpu.iy + sext16 d)

/-- The bytes a form that writes its operand stores to. -/
def stored (s : State) (m : MOperand) : List Word := (m.addr s).toList

/-- `read(m)`. -/
def value (s : State) (m : MOperand) : Byte :=
  match m, m.addr s with
  | .reg r, _ => s.cpu.get r
  | _, some a => s.readByte a
  | _, none => 0

/-- The state after `read(m)`. -/
def after (s : State) (m : MOperand) : State :=
  match m.addr s with
  | some a => s.afterRead a
  | none => s

/-- The state after `read(m); write(m, v)`. -/
def put (s : State) (m : MOperand) (v : Byte) : State :=
  match m, m.addr s with
  | .reg r, _ => { s with cpu := s.cpu.set r v }
  | _, some a => (s.afterRead a).memWrite a v
  | _, none => s

/-- The cycles of R374 for a register, `(HL)` and `(XY+d)`. -/
def cost (m : MOperand) (reg hl idx : Nat) : Nat :=
  match m with
  | .reg _ => reg
  | .atHL => hl
  | .atIdx _ _ => idx

/-- `INC m` (R300 to R302). -/
def inc : MOperand → Instr
  | .reg r => .incR r
  | .atHL => .incAtHL
  | .atIdx .ix d => .incAtIXd d
  | .atIdx .iy d => .incAtIYd d

/-- `DEC m` (R303 to R305). -/
def dec : MOperand → Instr
  | .reg r => .decR r
  | .atHL => .decAtHL
  | .atIdx .ix d => .decAtIXd d
  | .atIdx .iy d => .decAtIYd d

/-- The rotates and shifts of R376 to R383. -/
def rot : RotOp → MOperand → Instr
  | .rlc, .reg r => .rlcR r
  | .rrc, .reg r => .rrcR r
  | .rl, .reg r => .rlR r
  | .rr, .reg r => .rrR r
  | .sla, .reg r => .slaR r
  | .sra, .reg r => .sraR r
  | .sll, .reg r => .sllR r
  | .srl, .reg r => .srlR r
  | .rlc, .atHL => .rlcAtHL
  | .rrc, .atHL => .rrcAtHL
  | .rl, .atHL => .rlAtHL
  | .rr, .atHL => .rrAtHL
  | .sla, .atHL => .slaAtHL
  | .sra, .atHL => .sraAtHL
  | .sll, .atHL => .sllAtHL
  | .srl, .atHL => .srlAtHL
  | .rlc, .atIdx .ix d => .rlcAtIXd d
  | .rrc, .atIdx .ix d => .rrcAtIXd d
  | .rl, .atIdx .ix d => .rlAtIXd d
  | .rr, .atIdx .ix d => .rrAtIXd d
  | .sla, .atIdx .ix d => .slaAtIXd d
  | .sra, .atIdx .ix d => .sraAtIXd d
  | .sll, .atIdx .ix d => .sllAtIXd d
  | .srl, .atIdx .ix d => .srlAtIXd d
  | .rlc, .atIdx .iy d => .rlcAtIYd d
  | .rrc, .atIdx .iy d => .rrcAtIYd d
  | .rl, .atIdx .iy d => .rlAtIYd d
  | .rr, .atIdx .iy d => .rrAtIYd d
  | .sla, .atIdx .iy d => .slaAtIYd d
  | .sra, .atIdx .iy d => .sraAtIYd d
  | .sll, .atIdx .iy d => .sllAtIYd d
  | .srl, .atIdx .iy d => .srlAtIYd d

/-- `SET b,m` (R403). -/
def set (b : Fin 8) : MOperand → Instr
  | .reg r => .setBR b r
  | .atHL => .setBAtHL b
  | .atIdx .ix d => .setBAtIXd b d
  | .atIdx .iy d => .setBAtIYd b d

/-- `RES b,m` (R404). -/
def res (b : Fin 8) : MOperand → Instr
  | .reg r => .resBR b r
  | .atHL => .resBAtHL b
  | .atIdx .ix d => .resBAtIXd b d
  | .atIdx .iy d => .resBAtIYd b d

end MOperand

/-- The source operand `s` of R291. -/
inductive AluSource where
  | op (m : MOperand)
  | imm (n : Byte)
  | half (x : Idx) (h : Half)
deriving DecidableEq, Repr

namespace AluSource

/-- The value of the operand (R291). -/
def value (s : State) : AluSource → Byte
  | .op m => m.value s
  | .imm n => n
  | .half .ix .high => hi s.cpu.ix
  | .half .ix .low => lo s.cpu.ix
  | .half .iy .high => hi s.cpu.iy
  | .half .iy .low => lo s.cpu.iy

/-- The state after the operand is read. -/
def after (s : State) : AluSource → State
  | .op m => m.after s
  | .imm _ => s
  | .half _ _ => s

/-- The cycles of R291. -/
def cost : AluSource → Nat
  | .op m => m.cost 4 7 19
  | .imm _ => 7
  | .half _ _ => 8

/-- The instruction of an operation and an operand (R291 to R299). -/
def instr : AluOp → AluSource → Instr
  | .add, .op (.reg r) => .addAR r
  | .add, .imm n => .addAN n
  | .add, .op .atHL => .addAAtHL
  | .add, .op (.atIdx .ix d) => .addAAtIXd d
  | .add, .half .ix .high => .addAHX
  | .add, .half .ix .low => .addALX
  | .add, .op (.atIdx .iy d) => .addAAtIYd d
  | .add, .half .iy .high => .addAHY
  | .add, .half .iy .low => .addALY
  | .adc, .op (.reg r) => .adcAR r
  | .adc, .imm n => .adcAN n
  | .adc, .op .atHL => .adcAAtHL
  | .adc, .op (.atIdx .ix d) => .adcAAtIXd d
  | .adc, .half .ix .high => .adcAHX
  | .adc, .half .ix .low => .adcALX
  | .adc, .op (.atIdx .iy d) => .adcAAtIYd d
  | .adc, .half .iy .high => .adcAHY
  | .adc, .half .iy .low => .adcALY
  | .sub, .op (.reg r) => .subR r
  | .sub, .imm n => .subN n
  | .sub, .op .atHL => .subAtHL
  | .sub, .op (.atIdx .ix d) => .subAtIXd d
  | .sub, .half .ix .high => .subHX
  | .sub, .half .ix .low => .subLX
  | .sub, .op (.atIdx .iy d) => .subAtIYd d
  | .sub, .half .iy .high => .subHY
  | .sub, .half .iy .low => .subLY
  | .sbc, .op (.reg r) => .sbcAR r
  | .sbc, .imm n => .sbcAN n
  | .sbc, .op .atHL => .sbcAAtHL
  | .sbc, .op (.atIdx .ix d) => .sbcAAtIXd d
  | .sbc, .half .ix .high => .sbcAHX
  | .sbc, .half .ix .low => .sbcALX
  | .sbc, .op (.atIdx .iy d) => .sbcAAtIYd d
  | .sbc, .half .iy .high => .sbcAHY
  | .sbc, .half .iy .low => .sbcALY
  | .and, .op (.reg r) => .andR r
  | .and, .imm n => .andN n
  | .and, .op .atHL => .andAtHL
  | .and, .op (.atIdx .ix d) => .andAtIXd d
  | .and, .half .ix .high => .andHX
  | .and, .half .ix .low => .andLX
  | .and, .op (.atIdx .iy d) => .andAtIYd d
  | .and, .half .iy .high => .andHY
  | .and, .half .iy .low => .andLY
  | .xor, .op (.reg r) => .xorR r
  | .xor, .imm n => .xorN n
  | .xor, .op .atHL => .xorAtHL
  | .xor, .op (.atIdx .ix d) => .xorAtIXd d
  | .xor, .half .ix .high => .xorHX
  | .xor, .half .ix .low => .xorLX
  | .xor, .op (.atIdx .iy d) => .xorAtIYd d
  | .xor, .half .iy .high => .xorHY
  | .xor, .half .iy .low => .xorLY
  | .or, .op (.reg r) => .orR r
  | .or, .imm n => .orN n
  | .or, .op .atHL => .orAtHL
  | .or, .op (.atIdx .ix d) => .orAtIXd d
  | .or, .half .ix .high => .orHX
  | .or, .half .ix .low => .orLX
  | .or, .op (.atIdx .iy d) => .orAtIYd d
  | .or, .half .iy .high => .orHY
  | .or, .half .iy .low => .orLY
  | .cp, .op (.reg r) => .cpR r
  | .cp, .imm n => .cpN n
  | .cp, .op .atHL => .cpAtHL
  | .cp, .op (.atIdx .ix d) => .cpAtIXd d
  | .cp, .half .ix .high => .cpHX
  | .cp, .half .ix .low => .cpLX
  | .cp, .op (.atIdx .iy d) => .cpAtIYd d
  | .cp, .half .iy .high => .cpHY
  | .cp, .half .iy .low => .cpLY

end AluSource

/-! ## Flags -/

/-- S, Z, H, PV, N and C of the flag byte `f` (R33). -/
def FlagBits (f : Byte) (s z h pv n c : Bool) : Prop :=
  f.getLsbD 7 = s ∧ f.getLsbD 6 = z ∧ f.getLsbD 4 = h ∧ f.getLsbD 2 = pv ∧ f.getLsbD 1 = n ∧
    f.getLsbD 0 = c

/-- F5 and F3 of the flag byte `f` (R33). -/
def Undoc53 (f : Byte) (f5 f3 : Bool) : Prop := f.getLsbD 5 = f5 ∧ f.getLsbD 3 = f3

/-- F after an 8-bit increment of `v` with F `old` before (R300). -/
def IncFlags (old f v : Byte) : Prop :=
  FlagBits f ((v + 1).getLsbD 7) (decide (v = 0xFF)) (decide (v.toNat % 16 = 15))
      (decide (v = 0x7F)) false (old.getLsbD 0) ∧
    Undoc53 f ((v + 1).getLsbD 5) ((v + 1).getLsbD 3)

/-- F after an 8-bit decrement of `v` with F `old` before (R303). -/
def DecFlags (old f v : Byte) : Prop :=
  FlagBits f ((v - 1).getLsbD 7) (decide (v = 0x01)) (decide (v.toNat % 16 = 0))
      (decide (v = 0x80)) true (old.getLsbD 0) ∧
    Undoc53 f ((v - 1).getLsbD 5) ((v - 1).getLsbD 3)

/-- `r` and `f` are the result and F of a 16-bit ADD of `x` and `y` in `s` (R350). -/
def Add16 (s : State) (x y r : Word) (f : Byte) : Prop :=
  r.toNat = (x.toNat + y.toNat) % 65536 ∧
    FlagBits f (s.cpu.f.getLsbD 7) (s.cpu.f.getLsbD 6)
      (decide (0xFFF < x.toNat % 4096 + y.toNat % 4096)) (s.cpu.f.getLsbD 2) false
      (decide (0xFFFF < x.toNat + y.toNat)) ∧
    (s.cfg.undocFlags = .formula → Undoc53 f (r.getLsbD 13) (r.getLsbD 11))

/-- `r` and `f` are the result and F of `ADC HL,ss` on `x` and `y` in `s` (R351). -/
def Adc16 (s : State) (x y r : Word) (f : Byte) : Prop :=
  let c := (s.cpu.f.getLsbD 0).toNat
  r.toNat = (x.toNat + y.toNat + c) % 65536 ∧
    FlagBits f (r.getLsbD 15) (decide (r = 0))
      (decide (0xFFF < x.toNat % 4096 + y.toNat % 4096 + c))
      (decide (x.toInt + y.toInt + c < -32768 ∨ 32767 < x.toInt + y.toInt + c)) false
      (decide (0xFFFF < x.toNat + y.toNat + c)) ∧
    (s.cfg.undocFlags = .formula → Undoc53 f (r.getLsbD 13) (r.getLsbD 11))

/-- `r` and `f` are the result and F of `SBC HL,ss` on `x` and `y` in `s` (R352). -/
def Sbc16 (s : State) (x y r : Word) (f : Byte) : Prop :=
  let c := (s.cpu.f.getLsbD 0).toNat
  (r.toNat : Int) = ((x.toNat : Int) - y.toNat - c) % 65536 ∧
    FlagBits f (r.getLsbD 15) (decide (r = 0))
      (decide (x.toNat % 4096 < y.toNat % 4096 + c))
      (decide (x.toInt - y.toInt - c < -32768 ∨ 32767 < x.toInt - y.toInt - c)) true
      (decide (x.toNat < y.toNat + c)) ∧
    (s.cfg.undocFlags = .formula → Undoc53 f (r.getLsbD 13) (r.getLsbD 11))

/-- `w` and `out` are the result and the bit moved out of `op` on `v` with carry in `cin`: the
table of R375, in arithmetic form. -/
def Rotated (op : RotOp) (v : Byte) (cin : Bool) (w : Byte) (out : Bool) : Prop :=
  match op with
  | .rlc => w.toNat = 2 * (v.toNat % 128) + v.toNat / 128 ∧ out = v.getLsbD 7
  | .rrc => w.toNat = v.toNat / 2 + 128 * (v.toNat % 2) ∧ out = v.getLsbD 0
  | .rl => w.toNat = 2 * (v.toNat % 128) + cin.toNat ∧ out = v.getLsbD 7
  | .rr => w.toNat = v.toNat / 2 + 128 * cin.toNat ∧ out = v.getLsbD 0
  | .sla => w.toNat = 2 * (v.toNat % 128) ∧ out = v.getLsbD 7
  | .sra => w.toNat = v.toNat / 2 + 128 * (v.toNat / 128) ∧ out = v.getLsbD 0
  | .sll => w.toNat = 2 * (v.toNat % 128) + 1 ∧ out = v.getLsbD 7
  | .srl => w.toNat = v.toNat / 2 ∧ out = v.getLsbD 0

/-- F after a rotate or shift of the CB group with result `w` and bit moved out `out` (R375). -/
def RotFlags (f w : Byte) (out : Bool) : Prop :=
  FlagBits f (w.getLsbD 7) (decide (w = 0)) false (parity w) false out ∧
    Undoc53 f (w.getLsbD 5) (w.getLsbD 3)

/-- F after BIT `b` of `v` in `s`, but for F5 and F3 (R400 to R402): S and PV are the formula when
UNDOC_FLAGS is formula, and free under draw. -/
def BitFlags (s : State) (f : Byte) (b : Fin 8) (v : Byte) : Prop :=
  f.getLsbD 6 = !v.getLsbD b ∧ f.getLsbD 4 = true ∧ f.getLsbD 1 = false ∧
    f.getLsbD 0 = s.cpu.f.getLsbD 0 ∧
    (s.cfg.undocFlags = .formula →
      f.getLsbD 2 = !v.getLsbD b ∧ f.getLsbD 7 = (decide (b = 7) && v.getLsbD b))

/-- The formula of R474 for the flags other than Z: `v` the byte transferred, `b` the new B, `k`
the sum of the rule. -/
def BlockIoFlags (f v b : Byte) (k : Nat) : Prop :=
  f.getLsbD 1 = v.getLsbD 7 ∧ f.getLsbD 4 = decide (255 < k) ∧ f.getLsbD 0 = decide (255 < k) ∧
    f.getLsbD 2 = parity (BitVec.ofNat 8 (k % 8) ^^^ b) ∧ f.getLsbD 7 = b.getLsbD 7 ∧
    Undoc53 f (b.getLsbD 5) (b.getLsbD 3)

/-- A packed BCD byte. -/
def Bcd (a : Byte) : Prop := a.toNat / 16 < 10 ∧ a.toNat % 16 < 10

/-- The number two BCD digits stand for. -/
def bcdValue (a : Byte) : Nat := 10 * (a.toNat / 16) + a.toNat % 16

/-! ## Ports -/

/-- An IN of the port completes (R110): it is a port the read router lists, or unknown ports
float. -/
def State.InAdmitted (s : State) (port : Word) : Prop :=
  s.cfg.unknownPorts = .float ∨
    (decodePort (lo port) ≠ .unknown ∧ decodePort (lo port) ≠ .fdcSelect)

/-- The instructions that access a port (R460 to R473). -/
def usesPort : Instr → Bool
  | .inAAtN _ | .inRAtC _ | .inFAtC | .ini | .inir | .ind | .indr => true
  | .outAtNA _ | .outAtCR _ | .outAtC0 | .outi | .otir | .outd | .otdr => true
  | _ => false

/-- A command byte that is not refused (R592, R602, R603). -/
def CommandAdmitted (c : Byte) : Prop := c.toNat < 0xA0 ∨ (0xD0 ≤ c.toNat ∧ c.toNat < 0xE0)

/-- Opening the mounted tape does not fault (R663): it does not parse, or it is PCM, mono,
16-bit. -/
def Cassette.Openable (c : Cassette) : Prop :=
  ∀ w, c.source.bind parseWav = some w →
    w.fmt.format = 1 ∧ w.fmt.channels = 1 ∧ w.fmt.bits = 16

/-- An OUT of `v` to the port completes: the port is known or unknown ports float (R110), a disk
command is not refused (R592), a motor-on that opens the tape does not fault (R662, R663). -/
def State.OutAdmitted (s : State) (port : Word) (v : Byte) : Prop :=
  (decodePort (lo port) = .unknown → s.cfg.unknownPorts = .float) ∧
    (decodePort (lo port) = .fdcStatus → CommandAdmitted v) ∧
    (decodePort (lo port) = .mode → v.getLsbD 1 = true → s.cas.motor = false →
      s.cas.state = .close → s.cas.Openable)

/-- What a port access leaves alone: it may change the latches, the mode image, the disk
controller and drives, the cassette, the event queue and the outputs, and nothing else. -/
structure DevicesOnly (s t : State) : Prop where
  cpu : t.cpu = s.cpu
  romSize : t.romSize = s.romSize
  mem : t.mem = s.mem
  inited : t.inited = s.inited
  clock : t.clock = s.clock
  nextTimer : t.nextTimer = s.nextTimer
  fault : t.fault = s.fault
  kbd : t.kbd = s.kbd
  running : t.running = s.running
  breakpoints : t.breakpoints = s.breakpoints
  skipBreak : t.skipBreak = s.skipBreak
  shutDown : t.shutDown = s.shutDown
  inbox : t.inbox = s.inbox
  cfg : t.cfg = s.cfg
  drawNo : t.drawNo = s.drawNo

/-! ## Registers -/

/-- `s` with the alternate set of `c` (R31). -/
def State.withAlternates (s : State) (c : Regs) : State :=
  { s with
    cpu := { s.cpu with
      a' := c.a', f' := c.f', b' := c.b', c' := c.c', d' := c.d', e' := c.e', h' := c.h',
      l' := c.l' } }

/-! ## Steps -/

/-- The next step runs an instruction: no fault, no shutdown, no host action waiting, running, and
no breakpoint to stop at (R51, R543). -/
structure State.Ready (s : State) : Prop where
  noFault : s.fault = none
  alive : s.shutDown = false
  quiet : s.inbox = []
  running : s.running = true
  noStop : s.cpu.pc ∉ s.breakpoints ∨ s.skipBreak = true

/-- At `s`, with no fault and no shutdown, the host actions of this boundary leave `d` (`s` itself
when none is waiting), and at `d` the next instruction is due: running, and no breakpoint to stop
at (R51, R542, R543). -/
structure State.Due (s d : State) : Prop where
  noFault : s.fault = none
  alive : s.shutDown = false
  drained : s.drainInbox = .ok d
  running : d.running = true
  noStop : d.cpu.pc ∉ d.breakpoints ∨ d.skipBreak = true

/-! ## Latches -/

/-- The latches with `v` as the NMI latch: the suppressor stays set only while an unmasked bit is
pending (R512). -/
def Latches.withNmi (l : Latches) (v : Byte) : Latches :=
  { l with nmiLatch := v, nmiSeen := l.nmiSeen && decide (l.nmiMask &&& v ≠ 0) }

/-! ## The JV3 tables -/

/-- Entry `n` of the sorted index of the tables is descriptor `i`, whose contents are `e` (R620). -/
def Jv3Tables.Entry (t : Jv3Tables) (n i : Nat) (e : SectorId) : Prop :=
  t.sortedId[n]? = some i ∧ t.ids[i]? = some e

/-- `trackStart[p][side]` (R620); none is −1. -/
def Jv3Tables.startOf (t : Jv3Tables) (p : Nat) (side : Bool) : Option Nat :=
  (t.trackStart[p]?).bind fun e => if side then e.2 else e.1

/-- The walk of R612 gives descriptor `i`, with contents `e`: from the start of track `p` on `side`,
every entry up to `i`'s is on that track and side and before the sentinel's place N, `i`'s is
`wanted` and none before it is. -/
def Jv3Tables.Finds (t : Jv3Tables) (p : Nat) (side : Bool) (wanted : SectorId → Prop) (i : Nat)
    (e : SectorId) : Prop :=
  ∃ k n, t.startOf p side = some k ∧ k ≤ n ∧ n + 1 < t.ids.length ∧ t.Entry n i e ∧ wanted e ∧
    e.track.toNat = p ∧ e.flags.getLsbD 4 = side ∧
    ∀ m, k ≤ m → m < n → ∃ j x, t.Entry m j x ∧ x.track.toNat = p ∧ x.flags.getLsbD 4 = side ∧
      ¬wanted x

/-- `x` at index `i` sorts before `y` at index `j`: by track, side and index (R620). -/
def SectorId.Sorts (x : SectorId) (i : Nat) (y : SectorId) (j : Nat) : Prop :=
  x.track.toNat < y.track.toNat ∨
    (x.track = y.track ∧
      (x.flags.getLsbD 4 = false ∧ y.flags.getLsbD 4 = true ∨
        x.flags.getLsbD 4 = y.flags.getLsbD 4 ∧ i < j))

/-! ## The keyboard matrix -/

/-- Cells marked – are never set: neither in the matrix nor by an activity still queued (R695). -/
structure Keyboard.Legends (kb : Keyboard) : Prop where
  rows : ∀ i j : Fin 8, hasLegend i j = false → (kb.rows[i]).getLsbD j = false
  queue : ∀ k ∈ kb.queue, hasLegend k.row k.bit = true

/-! ## The invariant -/

/-- The kind value of an action (R566). -/
def EventAction.kind : EventAction → Byte
  | .diskDone _ => kindDiskDone
  | .lostData => kindDiskLostData
  | .firstDrq => kindDiskFirstDrq
  | .kickOff => kindKickOff

/-- What every step keeps. -/
structure State.Inv (s : State) : Prop where
  /-- memory and the initialized flags are in canonical form (R48) -/
  memWf : s.mem.wf = true
  initedWf : initedWf s.inited = true
  /-- the NMI mask always includes the reset bit (R45) -/
  resetBit : s.lat.nmiMask.getLsbD 5 = true
  /-- the suppressor is set only while an unmasked NMI bit is (R46, R512) -/
  suppressed : s.lat.nmiSeen = true → s.lat.nmiMask &&& s.lat.nmiLatch ≠ 0
  /-- IRQ latch bits without a source stay 0 (R510) -/
  irqBits : s.lat.irqLatch &&& 0xF8 = 0
  /-- NMI latch bits without a source stay 0 (R511) -/
  nmiBits : s.lat.nmiLatch &&& 0x1F = 0
  /-- heads stay on the disk (R594, R595) -/
  heads : ∀ d : Fin 4, s.drv[d].phys < Config.maxTracks
  /-- NotReady is never set (R581) -/
  ready : s.fdc.status.getLsbD 7 = false
  /-- drives 2 and 3 are always empty (R542) -/
  empty2 : s.drv[2].kind = .none
  empty3 : s.drv[3].kind = .none
  /-- the queue is sorted by (fireClock, seq) (R560) -/
  sorted : s.events.Pairwise (fun x y => x.before y = true)
  /-- the insertion counter is past every entry (R561) -/
  seqs : ∀ e ∈ s.events, e.seq < s.seqNo
  /-- an entry's kind is its action's (R566) -/
  kinds : ∀ e ∈ s.events, e.kind = e.action.kind
  /-- cells without a legend are never set (R695) -/
  keys : s.kbd.Legends

end Sys2Proof.Machine
end

