-- ==== Sys2Proof/Certificates/Slice0/Obligations.lean ====
section
/-! DEFINITION. The statements for the provers, in the order of OBLIGATIONS.json. In a statement
about `exec` the state is the one whose PC is already past the instruction (R150); `Runs i s t l`
says that exec of `i` at `s` answers the next state `t` and that every byte but those at the
addresses `l` is unchanged. The record equations are the frames: a field not named is unchanged. -/

open Sys2Proof Sys2Proof.Machine

/-- O1. For every well-formed instruction and every bytes after it, decoding its encoding followed
by those bytes gives that instruction and leaves exactly those bytes. (30_encoding.md R140,
30_encoding.md R151, 30_encoding.md R159) -/
def Obligations.DecodeOfEncode : Prop :=
  ∀ (i : Instr) (rest : List Byte), i.wf = true → decode (encode i ++ rest) = .ok i rest

/-- O2. If a byte string decodes to an instruction with some bytes left, the instruction is well-
formed and the string is its encoding followed by those bytes: every accepted string has one
meaning and one spelling. (30_encoding.md R142, 30_encoding.md R159) -/
def Obligations.EncodeOfDecode : Prop :=
  ∀ (bs rest : List Byte) (i : Instr), decode bs = .ok i rest →
    i.wf = true ∧ bs = encode i ++ rest

/-- O3. One word of every prefix, written out bit by bit from the encodings of the instruction
rules, decodes to the instruction it stands for; after ED exactly the values R154 lists select
no row, after DD and FD (CB aside) exactly the values outside the rows of R155, and the
unprefixed, CB, DD CB and FD CB maps have a row for every value. (30_encoding.md R142,
30_encoding.md R152, 30_encoding.md R153, 30_encoding.md R154, 30_encoding.md R155,
30_encoding.md R156) -/
def Obligations.SampleWords : Prop :=
  decode [0b01000001] = .ok (.ldRR .b .c) [] ∧
    decode [0b00100001, 0x00, 0x3C] = .ok (.ldDDNN .hl 0x3C00) [] ∧
    decode [0b00101000, 0x05] = .ok (.jrJCCE .z 0x05) [] ∧
    decode [0b11001011, 0b01111110] = .ok (.bitBAtHL 7) [] ∧
    decode [0b11101101, 0b01001011, 0x34, 0x12] = .ok (.ldDDAtNN .bc 0x1234) [] ∧
    decode [0b11011101, 0b00110110, 0xFE, 0x99] = .ok (.ldAtIXdN 0xFE 0x99) [] ∧
    decode [0b11111101, 0b10000101] = .ok .addALY [] ∧
    decode [0b11011101, 0b11001011, 0x05, 0b00000110] = .ok (.rlcAtIXd 0x05) [] ∧
    (∀ op : Byte, decode [0xED, op] = .unknown ↔
      op.toNat < 0x40 ∨ op = 0x77 ∨ op = 0x7F ∨ (0x80 ≤ op.toNat ∧ op.toNat < 0xA0) ∨
        op ∈ ([0xA4, 0xA5, 0xA6, 0xA7, 0xAC, 0xAD, 0xAE, 0xAF, 0xB4, 0xB5, 0xB6, 0xB7] : List Byte) ∨
        0xBC ≤ op.toNat) ∧
    (∀ p ∈ ([0xDD, 0xFD] : List Byte), ∀ op : Byte, op ≠ 0xCB →
      (decode [p, op] = .unknown ↔
        op ∉ ([0x09, 0x19, 0x29, 0x39, 0x21, 0x22, 0x2A, 0x23, 0x2B, 0x34, 0x35, 0x36, 0x46, 0x4E,
            0x56, 0x5E, 0x66, 0x6E, 0x7E, 0x70, 0x71, 0x72, 0x73, 0x74, 0x75, 0x77] : List Byte) ∧
          op ∉ ([0x86, 0x8E, 0x96, 0x9E, 0xA6, 0xAE, 0xB6, 0xBE, 0xE1, 0xE3, 0xE5, 0xE9, 0xF9, 0x24,
            0x25, 0x26, 0x2C, 0x2D, 0x2E, 0x44, 0x45, 0x4C, 0x4D, 0x54, 0x55, 0x5C] : List Byte) ∧
          op ∉ ([0x5D, 0x7C, 0x7D, 0x60, 0x61, 0x62, 0x63, 0x64, 0x65, 0x67, 0x68, 0x69, 0x6A, 0x6B,
            0x6C, 0x6D, 0x6F, 0x84, 0x85, 0x8C, 0x8D, 0x94, 0x95, 0x9C, 0x9D, 0xA4] : List Byte) ∧
          op ∉ ([0xA5, 0xAC, 0xAD, 0xB4, 0xB5, 0xBC, 0xBD] : List Byte))) ∧
    (∀ op : Byte, decode [op] ≠ .unknown) ∧
    (∀ op : Byte, decode [0xCB, op] ≠ .unknown) ∧
    (∀ p ∈ ([0xDD, 0xFD] : List Byte), ∀ d op : Byte, ∃ i, decode [p, 0xCB, d, op] = .ok i [])

/-- O4. If the bytes the fetch reads at PC and up, outside the keyboard region, are the encoding of
a well-formed instruction whose group is admitted, the fetch gives that instruction and the
length of its encoding, and changes no state. The fetch reads through the memory router, but for
the first fetch after power-on of a machine without a ROM (ROM_SIZE 0, clock 0, PC 0), whose
bytes are the free values of RAM_INIT: that reading of R714 beside R80 is the model's choice
(log entry 5). (30_encoding.md R142, 30_encoding.md R141, 20_memory.md R119,
70_reset_and_hazards.md R714) -/
def Obligations.FetchReadsCode : Prop :=
  (∀ (s : State) (i : Instr), i.wf = true → s.admits i = true → s.CodeAt s.cpu.pc (encode i) →
      s.fetch = .ok (i, (encode i).length, s)) ∧
    (∀ (s : State) (a : Word), s.fetchByte a =
      if s.romSize = 0 ∧ s.clock = 0 ∧ s.cpu.pc = 0 then Config.ramInit a.toNat else s.readByte a)

/-- O5. The only fault the fetch raises is UnknownOpcode with 1 to 4 bytes, which select no row or a
row that is not admitted; each byte outside the keyboard region is the one the fetch reads at PC
plus its index, and the stopped state differs from the state before in the keyboard (a fetch
from its region may dequeue) and the fault field only. If the bytes at PC, outside the keyboard
region, select no row and their proper prefixes are no whole instruction, or if they are the
encoding of a well-formed instruction of the extended group and UNDOC_EXTENDED is false, a step
that is due to run them faults with UnknownOpcode of those bytes, the state otherwise as after
the host actions of the boundary and clearing skipBreak: no refresh count is kept, which under
R_POLICY = count is the model's choice (log entry 12). (30_encoding.md R141, 30_encoding.md
R142, 60_exceptions.md R500) -/
def Obligations.DecodeRefusal : Prop :=
  (∀ (s : State) (f : Fault), s.fetch = .error f →
      ∃ bytes k, 1 ≤ bytes.length ∧ bytes.length ≤ 4 ∧
        (decode bytes = .unknown ∨ ∃ i, decode bytes = .ok i [] ∧ s.admits i = false) ∧
        (∀ n b, bytes[n]? = some b → s.region (s.cpu.pc + BitVec.ofNat 16 n) ≠ .keyboard →
          b = s.fetchByte (s.cpu.pc + BitVec.ofNat 16 n)) ∧
        f = .fatal (.unknownOpcode bytes) { s with kbd := k, fault := some (.unknownOpcode bytes) }) ∧
    (∀ (s d : State) (bytes : List Byte), s.Due d → d.CodeAt d.cpu.pc bytes →
      (decode bytes = .unknown ∧ (∀ n, n < bytes.length → decode (bytes.take n) = .more)) ∨
        (d.cfg.undocExtended = false ∧
          ∃ i, i.wf = true ∧ i.extended = true ∧ bytes = encode i) →
      step s = .fault (.fatal (.unknownOpcode bytes)
        { d with skipBreak := false, fault := some (.unknownOpcode bytes) }))

/-- O6. When a step is due to run an instruction after the host actions of its boundary and the
fetch gives instruction i of length len, the step executes i on the state whose PC is past it,
and from a next state goes on to the event dispatch, the interrupt check, the cassette update
and the timer; a fault or refusal of the instruction is the step's. That the refresh count, when
R_POLICY counts (10_state.md R38), has counted the instruction before it runs is the model's
choice (log entry 12). (60_exceptions.md R530, 30_encoding.md R150, 60_exceptions.md R542,
60_exceptions.md R543) -/
def Obligations.StepRunsDecoded : Prop :=
  ∀ (s d u : State) (i : Instr) (len : Nat), s.Due d →
    ({ d with skipBreak := false } : State).fetch = .ok (i, len, u) →
    step s =
      match exec i ((u.countRefresh i).setPC (u.cpu.pc + BitVec.ofNat 16 len)) with
      | .next t =>
        (match t.dispatch.interruptCheck with
          | .ok v => .next v.cassetteUpdate.timerCheck
          | .error f => .fault f)
      | .fault f => .fault f
      | .refused r => .refused r

/-- O7. No step is taken after a fault, which the model answers with the same fault and state (the
model's choice, log entry 7); after a shutdown nothing changes; a fault of the host actions of
the boundary is the step's (that they run inside the step, so that their fault is its outcome,
is the model's choice, log entry 8); a machine that is not running after them changes nothing
more, and one that meets a breakpoint stops, emits Breakpoint(PC) and changes nothing more. That
a step answers next without an instruction is the model's choice too (log entry 9).
(60_exceptions.md R543, 60_exceptions.md R542, 10_state.md R51) -/
def Obligations.StepHeldBack : Prop :=
  ∀ s : State,
    (∀ r, s.fault = some r → step s = .fault (.fatal r s)) ∧
    (s.fault = none → s.shutDown = true → step s = .next s) ∧
    (s.fault = none → s.shutDown = false →
      (∀ f, s.drainInbox = .error f → step s = .fault f) ∧
      (∀ d, s.drainInbox = .ok d → d.running = false → step s = .next d) ∧
      (∀ d, s.drainInbox = .ok d → d.running = true → d.cpu.pc ∈ d.breakpoints →
        d.skipBreak = false →
        step s = .next
          { d with running := false, outputs := d.outputs ++ [.breakpoint d.cpu.pc] }))

/-- O8. A read returns ROM below ROM_SIZE, else RAM from 4000, else the screen byte, else the
keyboard scan after its dequeue, else 30 at 37E8, else FF; a read of the keyboard region runs
the dequeue and a read anywhere else changes no state. (R80) -/
def Obligations.MemoryRead : Prop :=
  ∀ (s : State) (a : Word),
    (a.toNat < s.romSize → s.readByte a = s.mem.get a.toNat) ∧
    (s.romSize ≤ a.toNat →
      (0x4000 ≤ a.toNat → s.readByte a = s.mem.get a.toNat) ∧
      (0x3C00 ≤ a.toNat ∧ a.toNat < 0x4000 → s.readByte a = s.mem.get a.toNat) ∧
      (0x3800 ≤ a.toNat ∧ a.toNat < 0x3900 → s.readByte a = s.keyDequeue.kbd.scan a) ∧
      (a.toNat = 0x37E8 → s.readByte a = 0x30) ∧
      (a.toNat < 0x37E8 ∨ (0x37E8 < a.toNat ∧ a.toNat < 0x3800) ∨
        (0x3900 ≤ a.toNat ∧ a.toNat < 0x3C00) → s.readByte a = 0xFF)) ∧
    (s.romSize ≤ a.toNat → 0x3800 ≤ a.toNat → a.toNat < 0x3900 → s.afterRead a = s.keyDequeue) ∧
    (a.toNat < s.romSize ∨ a.toNat < 0x3800 ∨ 0x3900 ≤ a.toNat → s.afterRead a = s)

/-- O9. A write below ROM_SIZE changes nothing; in RAM it stores the byte and sets its flag; on the
screen it also appends ScreenWrite; anywhere else it changes nothing. Every other byte reads as
before. (R81) -/
def Obligations.MemoryWrite : Prop :=
  ∀ (s : State) (a : Word) (v : Byte),
    (a.toNat < s.romSize → s.memWrite a v = s) ∧
    (s.romSize ≤ a.toNat →
      (0x4000 ≤ a.toNat →
        s.memWrite a v =
          { s with mem := s.mem.set a.toNat v, inited := markInited s.inited a.toNat }) ∧
      (0x3C00 ≤ a.toNat ∧ a.toNat < 0x4000 →
        s.memWrite a v =
          { s with
            mem := s.mem.set a.toNat v
            inited := markInited s.inited a.toNat
            outputs := s.outputs ++ [.screenWrite a v] }) ∧
      (a.toNat < 0x3C00 → s.memWrite a v = s)) ∧
    SameBytes s (s.memWrite a v) [a]

/-- O10. After a write of v to a RAM address outside ROM and any sequence of writes to other
addresses, a read of the address returns v and its initialized flag is set. (20_memory.md R87,
10_state.md R48) -/
def Obligations.RamKeepsLastWrite : Prop :=
  ∀ (s : State) (a : Word) (v : Byte) (later : List (Word × Byte)), s.romSize ≤ a.toNat →
    0x4000 ≤ a.toNat → (∀ w ∈ later, w.1 ≠ a) →
    let t := later.foldl (fun t w => t.memWrite w.1 w.2) (s.memWrite a v)
    t.readByte a = v ∧ a.toNat ∈ t.inited

/-- O11. If the two bytes below SP are RAM, a push puts the high byte at SP-1 and the low byte at
SP-2, SP goes down by 2, and a pop from there returns the word and restores the whole CPU state.
(41_load16.md R240, 41_load16.md R242, 00_scope.md R13) -/
def Obligations.PushThenPop : Prop :=
  ∀ (s : State) (w : Word),
    s.romSize ≤ (s.cpu.sp - 1).toNat → 0x4000 ≤ (s.cpu.sp - 1).toNat →
    s.romSize ≤ (s.cpu.sp - 2).toNat → 0x4000 ≤ (s.cpu.sp - 2).toNat →
    (s.push w).readByte (s.cpu.sp - 1) = hi w ∧ (s.push w).readByte (s.cpu.sp - 2) = lo w ∧
      (s.push w).cpu = { s.cpu with sp := s.cpu.sp - 2 } ∧
      (s.push w).popWord = w ∧ (s.push w).afterPop.cpu = s.cpu ∧
      SameBytes s (s.push w) [s.cpu.sp - 1, s.cpu.sp - 2]

/-- O12. A pair is its first register above its second; writing a pair writes both bytes and no
other register; writing a byte changes that register alone, and so the pair; every value can be
written and read; all registers are 0 at power-on and kept by the reset button. (R30) -/
def Obligations.RegisterFile : Prop :=
  (∀ (c : Regs) (w : Word),
      c.af = pair c.a c.f ∧ c.bc = pair c.b c.c ∧ c.de = pair c.d c.e ∧ c.hl = pair c.h c.l ∧
      (c.setAF w).af = w ∧ c.setAF w = { c with a := hi w, f := lo w } ∧
      (c.setBC w).bc = w ∧ c.setBC w = { c with b := hi w, c := lo w } ∧
      (c.setDE w).de = w ∧ c.setDE w = { c with d := hi w, e := lo w } ∧
      (c.setHL w).hl = w ∧ c.setHL w = { c with h := hi w, l := lo w }) ∧
    (∀ (c : Regs) (v : Byte),
      c.set .b v = { c with b := v } ∧ c.set .c v = { c with c := v } ∧
      c.set .d v = { c with d := v } ∧ c.set .e v = { c with e := v } ∧
      c.set .h v = { c with h := v } ∧ c.set .l v = { c with l := v } ∧
      c.set .a v = { c with a := v } ∧ ∀ r : Reg8, (c.set r v).get r = v) ∧
    State.reset.cpu = Regs.zero ∧ (Regs.zero.af = 0 ∧ Regs.zero.bc = 0 ∧ Regs.zero.de = 0 ∧
      Regs.zero.hl = 0) ∧
    (∀ s : State, s.resetButton.cpu = s.cpu)

/-- O13. LD r,n; LD r,r'; LD r,(HL); LD r,(IX+d); LD r,(IY+d); LD A,(BC); LD A,(DE); LD A,(nn); the
ten load forms over HX and LX and the ten over HY and LY: the destination register or half takes
the value, the other half is kept, the clock takes the rule's cycles, and nothing else changes
but the keyboard when the byte read is in its region; no flag and no byte of memory changes.
(40_load8.md R200, 40_load8.md R201, 40_load8.md R202, 40_load8.md R203, 40_load8.md R208,
40_load8.md R209, 40_load8.md R210, 40_load8.md R214, 40_load8.md R215, 40_load8.md R216,
40_load8.md R217, 10_state.md R32) -/
def Obligations.ByteLoads : Prop :=
  ∀ (s : State) (r r' : Reg8) (n d : Byte) (nn : Word),
    Runs (.ldRN r n) s { s with cpu := s.cpu.set r n, clock := s.clock + 7 } [] ∧
    Runs (.ldRR r r') s { s with cpu := s.cpu.set r (s.cpu.get r'), clock := s.clock + 4 } [] ∧
    Runs (.ldRAtHL r) s
      { s.afterRead s.cpu.hl with
        cpu := s.cpu.set r (s.readByte s.cpu.hl), clock := s.clock + 7 } [] ∧
    Runs (.ldRAtIXd r d) s
      { s.afterRead (s.cpu.ix + sext16 d) with
        cpu := s.cpu.set r (s.readByte (s.cpu.ix + sext16 d)), clock := s.clock + 19 } [] ∧
    Runs (.ldRAtIYd r d) s
      { s.afterRead (s.cpu.iy + sext16 d) with
        cpu := s.cpu.set r (s.readByte (s.cpu.iy + sext16 d)), clock := s.clock + 19 } [] ∧
    Runs .ldAAtBC s
      { s.afterRead s.cpu.bc with
        cpu := { s.cpu with a := s.readByte s.cpu.bc }, clock := s.clock + 7 } [] ∧
    Runs .ldAAtDE s
      { s.afterRead s.cpu.de with
        cpu := { s.cpu with a := s.readByte s.cpu.de }, clock := s.clock + 7 } [] ∧
    Runs (.ldAAtNN nn) s
      { s.afterRead nn with
        cpu := { s.cpu with a := s.readByte nn }, clock := s.clock + 13 } [] ∧
    Runs (.ldRHX r) s { s with cpu := s.cpu.set r (hi s.cpu.ix), clock := s.clock + 8 } [] ∧
    Runs (.ldRLX r) s { s with cpu := s.cpu.set r (lo s.cpu.ix), clock := s.clock + 8 } [] ∧
    Runs (.ldHXR r) s
      { s with cpu := { s.cpu with ix := pair (s.cpu.get r) (lo s.cpu.ix) }, clock := s.clock + 8 }
      [] ∧
    Runs (.ldLXR r) s
      { s with cpu := { s.cpu with ix := pair (hi s.cpu.ix) (s.cpu.get r) }, clock := s.clock + 8 }
      [] ∧
    Runs .ldHXHX s { s with clock := s.clock + 8 } [] ∧
    Runs .ldHXLX s
      { s with cpu := { s.cpu with ix := pair (lo s.cpu.ix) (lo s.cpu.ix) }, clock := s.clock + 8 }
      [] ∧
    Runs .ldLXHX s
      { s with cpu := { s.cpu with ix := pair (hi s.cpu.ix) (hi s.cpu.ix) }, clock := s.clock + 8 }
      [] ∧
    Runs .ldLXLX s { s with clock := s.clock + 8 } [] ∧
    Runs (.ldHXN n) s
      { s with cpu := { s.cpu with ix := pair n (lo s.cpu.ix) }, clock := s.clock + 11 } [] ∧
    Runs (.ldLXN n) s
      { s with cpu := { s.cpu with ix := pair (hi s.cpu.ix) n }, clock := s.clock + 11 } [] ∧
    Runs (.ldRHY r) s { s with cpu := s.cpu.set r (hi s.cpu.iy), clock := s.clock + 8 } [] ∧
    Runs (.ldRLY r) s { s with cpu := s.cpu.set r (lo s.cpu.iy), clock := s.clock + 8 } [] ∧
    Runs (.ldHYR r) s
      { s with cpu := { s.cpu with iy := pair (s.cpu.get r) (lo s.cpu.iy) }, clock := s.clock + 8 }
      [] ∧
    Runs (.ldLYR r) s
      { s with cpu := { s.cpu with iy := pair (hi s.cpu.iy) (s.cpu.get r) }, clock := s.clock + 8 }
      [] ∧
    Runs .ldHYHY s { s with clock := s.clock + 8 } [] ∧
    Runs .ldHYLY s
      { s with cpu := { s.cpu with iy := pair (lo s.cpu.iy) (lo s.cpu.iy) }, clock := s.clock + 8 }
      [] ∧
    Runs .ldLYHY s
      { s with cpu := { s.cpu with iy := pair (hi s.cpu.iy) (hi s.cpu.iy) }, clock := s.clock + 8 }
      [] ∧
    Runs .ldLYLY s { s with clock := s.clock + 8 } [] ∧
    Runs (.ldHYN n) s
      { s with cpu := { s.cpu with iy := pair n (lo s.cpu.iy) }, clock := s.clock + 11 } [] ∧
    Runs (.ldLYN n) s
      { s with cpu := { s.cpu with iy := pair (hi s.cpu.iy) n }, clock := s.clock + 11 } []

/-- O14. LD (HL),r; LD (HL),n; LD (IX+d),r; LD (IX+d),n and the IY forms; LD (BC),A; LD (DE),A; LD
(nn),A: the byte goes through the router to the address the form names, the clock takes the
rule's cycles, every register and flag and every other byte is unchanged. (40_load8.md R204,
40_load8.md R205, 40_load8.md R206, 40_load8.md R207, 40_load8.md R211, 40_load8.md R212,
40_load8.md R213) -/
def Obligations.ByteStores : Prop :=
  ∀ (s : State) (r : Reg8) (n d : Byte) (nn : Word),
    Runs (.ldAtHLR r) s
      { s.memWrite s.cpu.hl (s.cpu.get r) with clock := s.clock + 7 } [s.cpu.hl] ∧
    Runs (.ldAtHLN n) s { s.memWrite s.cpu.hl n with clock := s.clock + 10 } [s.cpu.hl] ∧
    Runs (.ldAtIXdR r d) s
      { s.memWrite (s.cpu.ix + sext16 d) (s.cpu.get r) with clock := s.clock + 19 }
      [s.cpu.ix + sext16 d] ∧
    Runs (.ldAtIYdR r d) s
      { s.memWrite (s.cpu.iy + sext16 d) (s.cpu.get r) with clock := s.clock + 19 }
      [s.cpu.iy + sext16 d] ∧
    Runs (.ldAtIXdN d n) s
      { s.memWrite (s.cpu.ix + sext16 d) n with clock := s.clock + 19 } [s.cpu.ix + sext16 d] ∧
    Runs (.ldAtIYdN d n) s
      { s.memWrite (s.cpu.iy + sext16 d) n with clock := s.clock + 19 } [s.cpu.iy + sext16 d] ∧
    Runs .ldAtBCA s { s.memWrite s.cpu.bc s.cpu.a with clock := s.clock + 7 } [s.cpu.bc] ∧
    Runs .ldAtDEA s { s.memWrite s.cpu.de s.cpu.a with clock := s.clock + 7 } [s.cpu.de] ∧
    Runs (.ldAtNNA nn) s { s.memWrite nn s.cpu.a with clock := s.clock + 13 } [nn]

/-- O15. LD I,A and LD R,A copy A; LD A,I copies I with S, Z, F5, F3 from it, H and N clear, PV =
IFF2, C kept; LD A,R does the same with bit 7 of R and, when R_POLICY counts, the whole of R.
The low bits under draw are free. Nothing else changes. (40_load8.md R218, 40_load8.md R219,
40_load8.md R220, 40_load8.md R221) -/
def Obligations.VectorAndRefresh : Prop :=
  ∀ s : State,
    Runs .ldVectorA s { s with cpu := { s.cpu with i := s.cpu.a }, clock := s.clock + 9 } [] ∧
    Runs .ldRefreshA s { s with cpu := { s.cpu with r := s.cpu.a }, clock := s.clock + 9 } [] ∧
    (∃ f, Runs .ldAVector s
        { s with cpu := { s.cpu with a := s.cpu.i, f := f }, clock := s.clock + 9 } [] ∧
      FlagBits f (s.cpu.i.getLsbD 7) (decide (s.cpu.i = 0)) false s.cpu.iff2 false
        (s.cpu.f.getLsbD 0) ∧
      Undoc53 f (s.cpu.i.getLsbD 5) (s.cpu.i.getLsbD 3)) ∧
    (∃ a f k, Runs .ldARefresh s
        { s with cpu := { s.cpu with a := a, f := f }, clock := s.clock + 9, drawNo := k } [] ∧
      a.getLsbD 7 = s.cpu.r.getLsbD 7 ∧ (s.cfg.rPolicy = .count → a = s.cpu.r) ∧
      FlagBits f (a.getLsbD 7) (decide (a = 0)) false s.cpu.iff2 false (s.cpu.f.getLsbD 0) ∧
      Undoc53 f (a.getLsbD 5) (a.getLsbD 3))

/-- O16. LD dd,nn; LD HL,(nn); LD dd,(nn); LD (nn),HL; LD (nn),dd; LD SP,HL and the IX and IY forms:
the destination takes the word, a store goes to nn and nn+1, no flag changes, nothing else
changes but the keyboard when a byte read is in its region. (41_load16.md R230, 41_load16.md
R231, 41_load16.md R232, 41_load16.md R233, 41_load16.md R234, 41_load16.md R235, 41_load16.md
R236, 41_load16.md R237, 41_load16.md R238, 41_load16.md R239) -/
def Obligations.WordLoads : Prop :=
  ∀ (s : State) (p : Pair) (nn : Word),
    Runs (.ldDDNN p nn) s { s with cpu := s.cpu.setPair p nn, clock := s.clock + 10 } [] ∧
    Runs (.ldHLAtNN nn) s
      { s.afterReadWord nn with
        cpu := s.cpu.setHL (s.readWord nn), clock := s.clock + 16 } [] ∧
    Runs (.ldDDAtNN p nn) s
      { s.afterReadWord nn with
        cpu := s.cpu.setPair p (s.readWord nn), clock := s.clock + 20 } [] ∧
    Runs (.ldAtNNHL nn) s
      { s.memWriteWord nn s.cpu.hl with clock := s.clock + 16 } [nn, nn + 1] ∧
    Runs (.ldAtNNDD p nn) s
      { s.memWriteWord nn (s.cpu.getPair p) with clock := s.clock + 20 } [nn, nn + 1] ∧
    Runs (.ldIXNN nn) s { s with cpu := { s.cpu with ix := nn }, clock := s.clock + 14 } [] ∧
    Runs (.ldIXAtNN nn) s
      { s.afterReadWord nn with
        cpu := { s.cpu with ix := s.readWord nn }, clock := s.clock + 20 } [] ∧
    Runs (.ldAtNNIX nn) s
      { s.memWriteWord nn s.cpu.ix with clock := s.clock + 20 } [nn, nn + 1] ∧
    Runs .ldSPIX s { s with cpu := { s.cpu with sp := s.cpu.ix }, clock := s.clock + 10 } [] ∧
    Runs (.ldIYNN nn) s { s with cpu := { s.cpu with iy := nn }, clock := s.clock + 14 } [] ∧
    Runs (.ldIYAtNN nn) s
      { s.afterReadWord nn with
        cpu := { s.cpu with iy := s.readWord nn }, clock := s.clock + 20 } [] ∧
    Runs (.ldAtNNIY nn) s
      { s.memWriteWord nn s.cpu.iy with clock := s.clock + 20 } [nn, nn + 1] ∧
    Runs .ldSPIY s { s with cpu := { s.cpu with sp := s.cpu.iy }, clock := s.clock + 10 } [] ∧
    Runs .ldSPHL s { s with cpu := { s.cpu with sp := s.cpu.hl }, clock := s.clock + 6 } []

/-- O17. A word read takes its low byte at a and then its high byte at a+1; a word write stores them
in that order; where both bytes are RAM or screen a word written reads back; where only the
first is (at FFFF, since no store lands at 0000) the low byte reads back and the high byte reads
as what stood at a+1 before. (20_memory.md R88, 20_memory.md R89, 20_memory.md R90, 00_scope.md
R13) -/
def Obligations.WordAccess : Prop :=
  ∀ (s : State) (a w : Word),
    lo (s.readWord a) = s.readByte a ∧
      hi (s.readWord a) = (s.afterRead a).readByte (a + 1) ∧
      s.afterReadWord a = (s.afterRead a).afterRead (a + 1) ∧
      s.memWriteWord a w = (s.memWrite a (lo w)).memWrite (a + 1) (hi w) ∧
      (s.writable a = true → s.writable (a + 1) = true → (s.memWriteWord a w).readWord a = w) ∧
      (s.writable a = true → s.writable (a + 1) = false →
        a = 0xFFFF ∧ (s.memWriteWord a w).readWord a = pair (s.readByte 0) (lo w))

/-- O18. PUSH qq and PUSH IX, IY store the pair below SP; POP qq and POP IX, IY load it from SP, SP
goes up by 2; POP AF writes all 8 bits of F, no other form changes F; EX DE,HL, EX AF,AF' and
EXX swap exactly the registers their rules name; EX (SP),HL, EX (SP),IX and EX (SP),IY swap the
register with the word at SP, which stays where it is; no other register, flag or byte changes,
nothing else changes but the keyboard when a byte read is in its region. (41_load16.md R240,
41_load16.md R241, 41_load16.md R242, 41_load16.md R243, 42_exchange_block.md R260,
42_exchange_block.md R261, 42_exchange_block.md R262, 42_exchange_block.md R263,
42_exchange_block.md R264) -/
def Obligations.StackAndExchange : Prop :=
  ∀ (s : State) (q : StackPair),
    Runs (.pushQQ q) s { s.push (s.cpu.getStackPair q) with clock := s.clock + 11 }
      [s.cpu.sp - 1, s.cpu.sp - 2] ∧
    Runs (.popQQ q) s
      { s.afterReadWord s.cpu.sp with
        cpu := { s.cpu with sp := s.cpu.sp + 2 }.setStackPair q (s.readWord s.cpu.sp)
        clock := s.clock + 10 } [] ∧
    Runs .pushIX s { s.push s.cpu.ix with clock := s.clock + 15 }
      [s.cpu.sp - 1, s.cpu.sp - 2] ∧
    Runs .popIX s
      { s.afterReadWord s.cpu.sp with
        cpu := { s.cpu with ix := s.readWord s.cpu.sp, sp := s.cpu.sp + 2 }, clock := s.clock + 14 }
      [] ∧
    Runs .pushIY s { s.push s.cpu.iy with clock := s.clock + 15 }
      [s.cpu.sp - 1, s.cpu.sp - 2] ∧
    Runs .popIY s
      { s.afterReadWord s.cpu.sp with
        cpu := { s.cpu with iy := s.readWord s.cpu.sp, sp := s.cpu.sp + 2 }, clock := s.clock + 14 }
      [] ∧
    Runs .exDEHL s
      { s with
        cpu := { s.cpu with d := s.cpu.h, e := s.cpu.l, h := s.cpu.d, l := s.cpu.e }
        clock := s.clock + 4 } [] ∧
    Runs .exAFAF' s
      { s with
        cpu := { s.cpu with a := s.cpu.a', f := s.cpu.f', a' := s.cpu.a, f' := s.cpu.f }
        clock := s.clock + 4 } [] ∧
    Runs .exx s
      { s with
        cpu := { s.cpu with
          b := s.cpu.b', c := s.cpu.c', d := s.cpu.d', e := s.cpu.e', h := s.cpu.h', l := s.cpu.l'
          b' := s.cpu.b, c' := s.cpu.c, d' := s.cpu.d, e' := s.cpu.e, h' := s.cpu.h, l' := s.cpu.l }
        clock := s.clock + 4 } [] ∧
    Runs .exAtSPHL s
      { (s.afterReadWord s.cpu.sp).memWriteWord s.cpu.sp s.cpu.hl with
        cpu := s.cpu.setHL (s.readWord s.cpu.sp), clock := s.clock + 19 }
      [s.cpu.sp, s.cpu.sp + 1] ∧
    Runs .exAtSPIX s
      { (s.afterReadWord s.cpu.sp).memWriteWord s.cpu.sp s.cpu.ix with
        cpu := { s.cpu with ix := s.readWord s.cpu.sp }, clock := s.clock + 23 }
      [s.cpu.sp, s.cpu.sp + 1] ∧
    Runs .exAtSPIY s
      { (s.afterReadWord s.cpu.sp).memWriteWord s.cpu.sp s.cpu.iy with
        cpu := { s.cpu with iy := s.readWord s.cpu.sp }, clock := s.clock + 23 }
      [s.cpu.sp, s.cpu.sp + 1]

/-- O19. The byte at HL goes to DE; HL and DE step by +1 or -1, BC goes down; H and N clear, PV =
(BC not 0), S, Z, C kept, F3 and F5 by the formula when UNDOC_FLAGS is formula and free under
draw; the repeating forms go back 2 bytes and cost 21 while BC is not 0, else cost 16; the only
byte stored to is the one at DE. (42_exchange_block.md R265, 42_exchange_block.md R266,
42_exchange_block.md R267, 42_exchange_block.md R268, 42_exchange_block.md R269, 00_scope.md
R14) -/
def Obligations.BlockTransfer : Prop :=
  ∀ s : State,
    let v := s.readByte s.cpu.hl
    let bc := s.cpu.bc - 1
    let n := s.cpu.a + v
    ∃ f k,
      FlagBits f (s.cpu.f.getLsbD 7) (s.cpu.f.getLsbD 6) false (decide (bc ≠ 0)) false
        (s.cpu.f.getLsbD 0) ∧
      (s.cfg.undocFlags = .formula → Undoc53 f (n.getLsbD 1) (n.getLsbD 3)) ∧
      Runs .ldi s
          { (s.afterRead s.cpu.hl).memWrite s.cpu.de v with
            cpu := { (((s.cpu.setHL (s.cpu.hl + 1)).setDE (s.cpu.de + 1)).setBC bc) with
              f := f, pc := s.cpu.pc }
            clock := s.clock + 16
            drawNo := k } [s.cpu.de] ∧
      Runs .ldir s
          { (s.afterRead s.cpu.hl).memWrite s.cpu.de v with
            cpu := { (((s.cpu.setHL (s.cpu.hl + 1)).setDE (s.cpu.de + 1)).setBC bc) with
              f := f, pc := if bc = 0 then s.cpu.pc else s.cpu.pc - 2 }
            clock := if bc = 0 then s.clock + 16 else s.clock + 21
            drawNo := k } [s.cpu.de] ∧
      Runs .ldd s
          { (s.afterRead s.cpu.hl).memWrite s.cpu.de v with
            cpu := { (((s.cpu.setHL (s.cpu.hl + (-1))).setDE (s.cpu.de + (-1))).setBC bc) with
              f := f, pc := s.cpu.pc }
            clock := s.clock + 16
            drawNo := k } [s.cpu.de] ∧
      Runs .lddr s
          { (s.afterRead s.cpu.hl).memWrite s.cpu.de v with
            cpu := { (((s.cpu.setHL (s.cpu.hl + (-1))).setDE (s.cpu.de + (-1))).setBC bc) with
              f := f, pc := if bc = 0 then s.cpu.pc else s.cpu.pc - 2 }
            clock := if bc = 0 then s.clock + 16 else s.clock + 21
            drawNo := k } [s.cpu.de]

/-- O20. A is compared with the byte at HL; HL steps by +1 or -1, BC goes down; S, Z from A minus
the byte, H the half borrow, PV = (BC not 0), N set, C kept, F3 and F5 by the formula when
UNDOC_FLAGS is formula and free under draw; the repeating forms go back 2 bytes and cost 21
while BC is not 0 and the bytes differ; no byte of memory changes. (42_exchange_block.md R265,
42_exchange_block.md R270, 42_exchange_block.md R271, 42_exchange_block.md R272,
42_exchange_block.md R273, 00_scope.md R14) -/
def Obligations.BlockSearch : Prop :=
  ∀ s : State,
    let v := s.readByte s.cpu.hl
    let bc := s.cpu.bc - 1
    let r := s.cpu.a - v
    let hc := decide (s.cpu.a.toNat % 16 < v.toNat % 16)
    let n := if hc then r - 1 else r
    ∃ f k,
      FlagBits f (r.getLsbD 7) (decide (s.cpu.a = v)) hc (decide (bc ≠ 0)) true
        (s.cpu.f.getLsbD 0) ∧
      (s.cfg.undocFlags = .formula → Undoc53 f (n.getLsbD 1) (n.getLsbD 3)) ∧
      Runs .cpi s
          { s.afterRead s.cpu.hl with
            cpu := { ((s.cpu.setHL (s.cpu.hl + 1)).setBC bc) with
              f := f, pc := s.cpu.pc }
            clock := s.clock + 16
            drawNo := k } [] ∧
      Runs .cpir s
          { s.afterRead s.cpu.hl with
            cpu := { ((s.cpu.setHL (s.cpu.hl + 1)).setBC bc) with
              f := f, pc := if bc ≠ 0 ∧ r ≠ 0 then s.cpu.pc - 2 else s.cpu.pc }
            clock := if bc ≠ 0 ∧ r ≠ 0 then s.clock + 21 else s.clock + 16
            drawNo := k } [] ∧
      Runs .cpd s
          { s.afterRead s.cpu.hl with
            cpu := { ((s.cpu.setHL (s.cpu.hl + (-1))).setBC bc) with
              f := f, pc := s.cpu.pc }
            clock := s.clock + 16
            drawNo := k } [] ∧
      Runs .cpdr s
          { s.afterRead s.cpu.hl with
            cpu := { ((s.cpu.setHL (s.cpu.hl + (-1))).setBC bc) with
              f := f, pc := if bc ≠ 0 ∧ r ≠ 0 then s.cpu.pc - 2 else s.cpu.pc }
            clock := if bc ≠ 0 ∧ r ≠ 0 then s.clock + 21 else s.clock + 16
            drawNo := k } []

/-- O21. For ADD and ADC A takes the sum of A, the operand and (for ADC) the carry, modulo 256; S,
Z, F5, F3 from it, H the carry out of bit 3, PV signed overflow by signs, N clear, C the carry
out. For SUB and SBC A takes A minus the operand minus (for SBC) the carry, modulo 256; S, Z,
F5, F3 from it, H the half borrow, PV signed overflow by signs, N set, C the borrow. CP leaves
A, has the same flags, and F5 and F3 are the operand's when UNDOC_FLAGS is formula and free
under draw. The clock takes the form's cycles, nothing else changes but the keyboard when the
operand is in its region. (43_alu8.md R290, 43_alu8.md R291, 43_alu8.md R292, 43_alu8.md R293,
43_alu8.md R294, 43_alu8.md R295, 43_alu8.md R299, 00_scope.md R14) -/
def Obligations.AddSubResult : Prop :=
  ∀ (s : State) (x : AluSource),
    let a := s.cpu.a
    let v := x.value s
    (∀ op c, (op = .add ∧ c = 0) ∨ (op = .adc ∧ c = (s.cpu.f.getLsbD 0).toNat) →
      ∃ r f, Runs (x.instr op) s
          { x.after s with cpu := { s.cpu with a := r, f := f }, clock := s.clock + x.cost } [] ∧
        r.toNat = (a.toNat + v.toNat + c) % 256 ∧
        FlagBits f (r.getLsbD 7) (decide (r = 0)) (decide (15 < a.toNat % 16 + v.toNat % 16 + c))
          (a.getLsbD 7 == v.getLsbD 7 && r.getLsbD 7 != a.getLsbD 7) false
          (decide (255 < a.toNat + v.toNat + c)) ∧
        Undoc53 f (r.getLsbD 5) (r.getLsbD 3)) ∧
    (∀ op c, (op = .sub ∧ c = 0) ∨ (op = .sbc ∧ c = (s.cpu.f.getLsbD 0).toNat) →
      ∃ r f, Runs (x.instr op) s
          { x.after s with cpu := { s.cpu with a := r, f := f }, clock := s.clock + x.cost } [] ∧
        (r.toNat : Int) = ((a.toNat : Int) - v.toNat - c) % 256 ∧
        FlagBits f (r.getLsbD 7) (decide (r = 0)) (decide (a.toNat % 16 < v.toNat % 16 + c))
          (a.getLsbD 7 != v.getLsbD 7 && r.getLsbD 7 != a.getLsbD 7) true
          (decide (a.toNat < v.toNat + c)) ∧
        Undoc53 f (r.getLsbD 5) (r.getLsbD 3)) ∧
    (∃ f k, Runs (x.instr .cp) s
        { x.after s with
          cpu := { s.cpu with f := f }, clock := s.clock + x.cost, drawNo := k } [] ∧
      (∀ (r : Byte) (c : Nat), r = a - v → c = 0 →
        FlagBits f (r.getLsbD 7) (decide (r = 0)) (decide (a.toNat % 16 < v.toNat % 16 + c))
          (a.getLsbD 7 != v.getLsbD 7 && r.getLsbD 7 != a.getLsbD 7) true
          (decide (a.toNat < v.toNat + c))) ∧
      (s.cfg.undocFlags = .formula → Undoc53 f (v.getLsbD 5) (v.getLsbD 3)))

/-- O22. A takes the bitwise result; S, Z, F5, F3 from it, H set by AND and clear for the others, PV
the parity of the result, N and C clear; the clock takes the form's cycles, nothing else changes
but the keyboard when the operand is in its region. (43_alu8.md R290, 43_alu8.md R291,
43_alu8.md R296, 43_alu8.md R297, 43_alu8.md R298) -/
def Obligations.LogicResult : Prop :=
  ∀ (s : State) (x : AluSource) (op : AluOp) (r : Byte),
    (op = .and ∧ r = s.cpu.a &&& x.value s) ∨ (op = .xor ∧ r = s.cpu.a ^^^ x.value s) ∨
      (op = .or ∧ r = s.cpu.a ||| x.value s) →
    ∃ f, Runs (x.instr op) s
        { x.after s with cpu := { s.cpu with a := r, f := f }, clock := s.clock + x.cost } [] ∧
      FlagBits f (r.getLsbD 7) (decide (r = 0)) (decide (op = .and)) (parity r) false false ∧
      Undoc53 f (r.getLsbD 5) (r.getLsbD 3)

/-- O23. After ADD, ADC, SUB, SBC and CP in any operand form, PV is set if and only if the
mathematical sum or difference of the operands as signed bytes, with the carry for ADC and SBC,
is below -128 or above 127. (43_alu8.md R290, 43_alu8.md R292, 43_alu8.md R293, 43_alu8.md R294,
43_alu8.md R295, 43_alu8.md R299) -/
def Obligations.SignedOverflow : Prop :=
  ∀ (s t : State) (x : AluSource) (op : AluOp) (e : Int),
    (op = .add ∧ e = s.cpu.a.toInt + (x.value s).toInt) ∨
      (op = .adc ∧ e = s.cpu.a.toInt + (x.value s).toInt + (s.cpu.f.getLsbD 0).toNat) ∨
      (op = .sub ∧ e = s.cpu.a.toInt - (x.value s).toInt) ∨
      (op = .sbc ∧ e = s.cpu.a.toInt - (x.value s).toInt - (s.cpu.f.getLsbD 0).toNat) ∨
      (op = .cp ∧ e = s.cpu.a.toInt - (x.value s).toInt) →
    exec (x.instr op) s = .next t →
    (t.cpu.f.getLsbD 2 = true ↔ e < -128 ∨ 127 < e)

/-- O24. The operand takes its value plus or minus 1 modulo 256; S, Z, F5, F3 from the result, H and
PV as the rules say of the old value, N clear for INC and set for DEC, C kept; a memory form
stores to its own byte alone, the other half is kept, nothing else changes but the keyboard when
the operand is in its region. (43_alu8.md R300, 43_alu8.md R301, 43_alu8.md R302, 43_alu8.md
R303, 43_alu8.md R304, 43_alu8.md R305) -/
def Obligations.IncDecResult : Prop :=
  ∀ (s : State) (m : MOperand),
    (∃ f u, Runs m.inc s
        { u with cpu := { u.cpu with f := f }, clock := s.clock + m.cost 4 11 23 } (m.stored s) ∧
      u = m.put s (m.value s + 1) ∧ IncFlags s.cpu.f f (m.value s)) ∧
      (∃ f u, Runs m.dec s
          { u with cpu := { u.cpu with f := f }, clock := s.clock + m.cost 4 11 23 } (m.stored s) ∧
        u = m.put s (m.value s - 1) ∧ DecFlags s.cpu.f f (m.value s)) ∧
      (∃ f, Runs .incHX s
          { s with
            cpu := { s.cpu with ix := pair (hi s.cpu.ix + 1) (lo s.cpu.ix), f := f }
            clock := s.clock + 8 } [] ∧ IncFlags s.cpu.f f (hi s.cpu.ix)) ∧
      (∃ f, Runs .incLX s
          { s with
            cpu := { s.cpu with ix := pair (hi s.cpu.ix) (lo s.cpu.ix + 1), f := f }
            clock := s.clock + 8 } [] ∧ IncFlags s.cpu.f f (lo s.cpu.ix)) ∧
      (∃ f, Runs .decHX s
          { s with
            cpu := { s.cpu with ix := pair (hi s.cpu.ix - 1) (lo s.cpu.ix), f := f }
            clock := s.clock + 8 } [] ∧ DecFlags s.cpu.f f (hi s.cpu.ix)) ∧
      (∃ f, Runs .decLX s
          { s with
            cpu := { s.cpu with ix := pair (hi s.cpu.ix) (lo s.cpu.ix - 1), f := f }
            clock := s.clock + 8 } [] ∧ DecFlags s.cpu.f f (lo s.cpu.ix)) ∧
      (∃ f, Runs .incHY s
          { s with
            cpu := { s.cpu with iy := pair (hi s.cpu.iy + 1) (lo s.cpu.iy), f := f }
            clock := s.clock + 8 } [] ∧ IncFlags s.cpu.f f (hi s.cpu.iy)) ∧
      (∃ f, Runs .incLY s
          { s with
            cpu := { s.cpu with iy := pair (hi s.cpu.iy) (lo s.cpu.iy + 1), f := f }
            clock := s.clock + 8 } [] ∧ IncFlags s.cpu.f f (lo s.cpu.iy)) ∧
      (∃ f, Runs .decHY s
          { s with
            cpu := { s.cpu with iy := pair (hi s.cpu.iy - 1) (lo s.cpu.iy), f := f }
            clock := s.clock + 8 } [] ∧ DecFlags s.cpu.f f (hi s.cpu.iy)) ∧
      (∃ f, Runs .decLY s
          { s with
            cpu := { s.cpu with iy := pair (hi s.cpu.iy) (lo s.cpu.iy - 1), f := f }
            clock := s.clock + 8 } [] ∧ DecFlags s.cpu.f f (lo s.cpu.iy))

/-- O25. The correction is 06 when H is set or the low digit exceeds 9, and 60 (setting C) when C is
set or A exceeds 99 hex; it is added when N is clear and subtracted when set; S, Z, F5, F3, PV
(parity) from the result, H as the rule says, N kept; nothing else changes. (R320) -/
def Obligations.DecimalAdjust : Prop :=
  ∀ s : State,
    let a := s.cpu.a
    let low := a.toNat % 16
    let c := s.cpu.f.getLsbD 0
    let n := s.cpu.f.getLsbD 1
    let h := s.cpu.f.getLsbD 4
    let corr := (if h = true ∨ 9 < low then 0x06 else 0) + (if c = true ∨ 0x99 < a.toNat then 0x60 else 0)
    ∃ r f, Runs .daa s
        { s with cpu := { s.cpu with a := r, f := f }, clock := s.clock + 4 } [] ∧
      (n = false → r.toNat = (a.toNat + corr) % 256) ∧
      (n = true → r.toNat = (a.toNat + 256 - corr) % 256) ∧
      FlagBits f (r.getLsbD 7) (decide (r = 0))
        (if n then h && decide (low < 6) else decide (9 < low)) (parity r) n
        (c || decide (0x99 < a.toNat)) ∧
      Undoc53 f (r.getLsbD 5) (r.getLsbD 3)

/-- O26. If A and the immediate are packed BCD, ADC then DAA leaves packed BCD with value plus 100
times the carry equal to the decimal sum with the carry in, and SBC then DAA leaves packed BCD
with value minus 100 times the carry equal to the decimal difference less the carry in. By the
spec's inference from its DAA table. (44_general_cpu.md R320, 43_alu8.md R293, 43_alu8.md R295) -/
def Obligations.BcdArithmetic : Prop :=
  ∀ (s : State) (n : Byte), Bcd s.cpu.a → Bcd n →
    (∃ t u, exec (.adcAN n) s = .next t ∧ exec .daa t = .next u ∧ Bcd u.cpu.a ∧
      bcdValue u.cpu.a + 100 * (u.cpu.f.getLsbD 0).toNat =
        bcdValue s.cpu.a + bcdValue n + (s.cpu.f.getLsbD 0).toNat) ∧
    (∃ t u, exec (.sbcAN n) s = .next t ∧ exec .daa t = .next u ∧ Bcd u.cpu.a ∧
      bcdValue u.cpu.a + bcdValue n + (s.cpu.f.getLsbD 0).toNat =
        bcdValue s.cpu.a + 100 * (u.cpu.f.getLsbD 0).toNat)

/-- O27. NOP changes only the clock; HALT moves PC back by 1 and sets halted; DI clears and EI sets
both enables, EI also its shadow; IM 0, 1, 2 and their mirrors set the mode; CPL complements A
with H and N set; CCF and SCF change C, H and N with F5 and F3 of A under formula and free under
draw. Nothing else changes. (44_general_cpu.md R321, 44_general_cpu.md R322, 44_general_cpu.md
R323, 44_general_cpu.md R324, 44_general_cpu.md R325, 44_general_cpu.md R326, 44_general_cpu.md
R327, 44_general_cpu.md R328, 44_general_cpu.md R329, 44_general_cpu.md R330, 44_general_cpu.md
R331, 44_general_cpu.md R333) -/
def Obligations.GeneralControl : Prop :=
  ∀ (s : State) (y : Fin 8),
    Runs .nop s { s with clock := s.clock + 4 } [] ∧
    Runs .halt s
      { s with cpu := { s.cpu with pc := s.cpu.pc - 1, halted := true }, clock := s.clock + 4 } [] ∧
    Runs .di s
      { s with cpu := { s.cpu with iff1 := false, iff2 := false }, clock := s.clock + 4 } [] ∧
    Runs .ei s
      { s with
        cpu := { s.cpu with iff1 := true, iff2 := true, eiShadow := true }, clock := s.clock + 4 }
      [] ∧
    Runs .im0 s { s with cpu := { s.cpu with im := .im0 }, clock := s.clock + 8 } [] ∧
    Runs (.im0Mirror y) s { s with cpu := { s.cpu with im := .im0 }, clock := s.clock + 8 } [] ∧
    Runs .im1 s { s with cpu := { s.cpu with im := .im1 }, clock := s.clock + 8 } [] ∧
    Runs .im1Mirror s { s with cpu := { s.cpu with im := .im1 }, clock := s.clock + 8 } [] ∧
    Runs .im2 s { s with cpu := { s.cpu with im := .im2 }, clock := s.clock + 8 } [] ∧
    Runs .im2Mirror s { s with cpu := { s.cpu with im := .im2 }, clock := s.clock + 8 } [] ∧
    (∃ f, Runs .cpl s
        { s with cpu := { s.cpu with a := ~~~s.cpu.a, f := f }, clock := s.clock + 4 } [] ∧
      FlagBits f (s.cpu.f.getLsbD 7) (s.cpu.f.getLsbD 6) true (s.cpu.f.getLsbD 2) true
        (s.cpu.f.getLsbD 0) ∧
      Undoc53 f ((~~~s.cpu.a).getLsbD 5) ((~~~s.cpu.a).getLsbD 3)) ∧
    (∃ f k, Runs .ccf s
        { s with cpu := { s.cpu with f := f }, clock := s.clock + 4, drawNo := k } [] ∧
      FlagBits f (s.cpu.f.getLsbD 7) (s.cpu.f.getLsbD 6) (s.cpu.f.getLsbD 0) (s.cpu.f.getLsbD 2)
        false (!s.cpu.f.getLsbD 0) ∧
      (s.cfg.undocFlags = .formula → Undoc53 f (s.cpu.a.getLsbD 5) (s.cpu.a.getLsbD 3))) ∧
    (∃ f k, Runs .scf s
        { s with cpu := { s.cpu with f := f }, clock := s.clock + 4, drawNo := k } [] ∧
      FlagBits f (s.cpu.f.getLsbD 7) (s.cpu.f.getLsbD 6) false (s.cpu.f.getLsbD 2) false true ∧
      (s.cfg.undocFlags = .formula → Undoc53 f (s.cpu.a.getLsbD 5) (s.cpu.a.getLsbD 3)))

/-- O28. A takes its two's complement; PV is set exactly for A = 80, C exactly for A not 0, H
exactly for a low digit not 0, N is set, S, Z, F5, F3 are the result's; 8 cycles; nothing else
changes. (44_general_cpu.md R322, 44_general_cpu.md R332) -/
def Obligations.Negate : Prop :=
  ∀ (s : State) (i : Instr), (i = .neg ∨ ∃ y, i = .negMirror y) →
    ∃ f, Runs i s
        { s with cpu := { s.cpu with a := -s.cpu.a, f := f }, clock := s.clock + 8 } [] ∧
      FlagBits f ((-s.cpu.a).getLsbD 7) (decide (s.cpu.a = 0)) (decide (s.cpu.a.toNat % 16 ≠ 0))
        (decide (s.cpu.a = 0x80)) true (decide (s.cpu.a ≠ 0)) ∧
      Undoc53 f ((-s.cpu.a).getLsbD 5) ((-s.cpu.a).getLsbD 3)

/-- O29. ADD HL,ss, ADD IX,pp and ADD IY,rr write H (carry out of bit 11), C and N = 0 and keep S,
Z, PV; ADC and SBC HL,ss write all six flags from the 16-bit result; F5 and F3 are bits 13 and
11 of the result under formula and free under draw; INC and DEC change no flag; nothing else
changes. (45_alu16.md R350, 45_alu16.md R351, 45_alu16.md R352, 45_alu16.md R353, 45_alu16.md
R354, 45_alu16.md R355, 45_alu16.md R356, 45_alu16.md R357, 00_scope.md R14) -/
def Obligations.WordArithmetic : Prop :=
  ∀ (s : State) (p : Pair) (q : IdxPair),
    (∃ r f k, Runs (.addHLSS p) s
        { s with
          cpu := { s.cpu.setHL r with f := f }, clock := s.clock + 11, drawNo := k } [] ∧
      Add16 s s.cpu.hl (s.cpu.getPair p) r f) ∧
    (∃ r f k, Runs (.adcHLSS p) s
        { s with
          cpu := { s.cpu.setHL r with f := f }, clock := s.clock + 15, drawNo := k } [] ∧
      Adc16 s s.cpu.hl (s.cpu.getPair p) r f) ∧
    (∃ r f k, Runs (.sbcHLSS p) s
        { s with
          cpu := { s.cpu.setHL r with f := f }, clock := s.clock + 15, drawNo := k } [] ∧
      Sbc16 s s.cpu.hl (s.cpu.getPair p) r f) ∧
    Runs (.incSS p) s
      { s with cpu := s.cpu.setPair p (s.cpu.getPair p + 1), clock := s.clock + 6 } [] ∧
    Runs (.decSS p) s
      { s with cpu := s.cpu.setPair p (s.cpu.getPair p - 1), clock := s.clock + 6 } [] ∧
    (∃ r f k, Runs (.addIXPP q) s
        { s with cpu := { s.cpu with ix := r, f := f }, clock := s.clock + 15, drawNo := k } [] ∧
      Add16 s s.cpu.ix (s.cpu.getIdxPair .ix q) r f) ∧
    Runs .incIX s { s with cpu := { s.cpu with ix := s.cpu.ix + 1 }, clock := s.clock + 10 } [] ∧
    Runs .decIX s { s with cpu := { s.cpu with ix := s.cpu.ix - 1 }, clock := s.clock + 10 } [] ∧
    (∃ r f k, Runs (.addIYRR q) s
        { s with cpu := { s.cpu with iy := r, f := f }, clock := s.clock + 15, drawNo := k } [] ∧
      Add16 s s.cpu.iy (s.cpu.getIdxPair .iy q) r f) ∧
    Runs .incIY s { s with cpu := { s.cpu with iy := s.cpu.iy + 1 }, clock := s.clock + 10 } [] ∧
    Runs .decIY s { s with cpu := { s.cpu with iy := s.cpu.iy - 1 }, clock := s.clock + 10 } []

/-- O30. A is rotated by one place, circularly or through the carry; C takes the bit moved out, H
and N clear, F5 and F3 from the new A, S, Z and PV kept; 4 cycles; nothing else changes. RLD
moves the digits A low to memory low to memory high to A low; RRD the other way round; A keeps
its high digit; S, Z, F5, F3, PV (parity) from the new A, H and N clear, C kept; 18 cycles; the
byte at HL is the only one stored to. (46_rotate_shift.md R370, 46_rotate_shift.md R371,
46_rotate_shift.md R372, 46_rotate_shift.md R373, 46_rotate_shift.md R384, 46_rotate_shift.md
R385) -/
def Obligations.AccumulatorRotates : Prop :=
  ∀ s : State,
    let v := s.readByte s.cpu.hl
    let a := s.cpu.a
    let c := (s.cpu.f.getLsbD 0).toNat
    let top := (a.getLsbD 7).toNat
    let bot := (a.getLsbD 0).toNat
    (∀ i r out,
      (i = .rlca ∧ r = 2 * (a.toNat % 128) + top ∧ out = a.getLsbD 7) ∨
      (i = .rla ∧ r = 2 * (a.toNat % 128) + c ∧ out = a.getLsbD 7) ∨
      (i = .rrca ∧ r = a.toNat / 2 + 128 * bot ∧ out = a.getLsbD 0) ∨
      (i = .rra ∧ r = a.toNat / 2 + 128 * c ∧ out = a.getLsbD 0) →
      ∃ w f, Runs i s
          { s with cpu := { s.cpu with a := w, f := f }, clock := s.clock + 4 } [] ∧
        w.toNat = r ∧
        FlagBits f (s.cpu.f.getLsbD 7) (s.cpu.f.getLsbD 6) false (s.cpu.f.getLsbD 2) false out ∧
        Undoc53 f (w.getLsbD 5) (w.getLsbD 3)) ∧
    (∀ i m r, (i = .rld ∧ m = 16 * (v.toNat % 16) + a.toNat % 16 ∧ r = 16 * (a.toNat / 16) + v.toNat / 16) ∨
        (i = .rrd ∧ m = 16 * (a.toNat % 16) + v.toNat / 16 ∧ r = 16 * (a.toNat / 16) + v.toNat % 16) →
      ∃ b w f, Runs i s
          { (s.afterRead s.cpu.hl).memWrite s.cpu.hl b with
            cpu := { s.cpu with a := w, f := f }, clock := s.clock + 18 } [s.cpu.hl] ∧
        b.toNat = m ∧ w.toNat = r ∧
        FlagBits f (w.getLsbD 7) (decide (w = 0)) false (parity w) false (s.cpu.f.getLsbD 0) ∧
        Undoc53 f (w.getLsbD 5) (w.getLsbD 3))

/-- O31. The operand takes the rotated or shifted value of the table of R375, in arithmetic form; S,
Z, F5, F3 and PV (parity) from it, H and N clear, C the bit moved out; a memory form reads and
stores its own byte alone, a copying form also writes the register; nothing else changes but the
keyboard when the operand is in its region. (46_rotate_shift.md R374, 46_rotate_shift.md R375,
46_rotate_shift.md R376, 46_rotate_shift.md R377, 46_rotate_shift.md R378, 46_rotate_shift.md
R379, 46_rotate_shift.md R380, 46_rotate_shift.md R381, 46_rotate_shift.md R382,
46_rotate_shift.md R383, 46_rotate_shift.md R386) -/
def Obligations.RotateResult : Prop :=
  ∀ (s : State) (op : RotOp),
    (∀ m : MOperand,
      ∃ w f out u, Runs (m.rot op) s
          { u with cpu := { u.cpu with f := f }, clock := s.clock + m.cost 8 15 23 } (m.stored s) ∧
        u = m.put s w ∧ Rotated op (m.value s) (s.cpu.f.getLsbD 0) w out ∧ RotFlags f w out) ∧
      (∀ (d : Byte) (r : Reg8), let a := s.cpu.ix + sext16 d
        ∃ w f out, Runs (.rotAtIXdR op d r) s
            { (s.afterRead a).memWrite a w with
              cpu := { s.cpu.set r w with f := f }, clock := s.clock + 23 } [a] ∧
          Rotated op (s.readByte a) (s.cpu.f.getLsbD 0) w out ∧ RotFlags f w out) ∧
      (∀ (d : Byte) (r : Reg8), let a := s.cpu.iy + sext16 d
        ∃ w f out, Runs (.rotAtIYdR op d r) s
            { (s.afterRead a).memWrite a w with
              cpu := { s.cpu.set r w with f := f }, clock := s.clock + 23 } [a] ∧
          Rotated op (s.readByte a) (s.cpu.f.getLsbD 0) w out ∧ RotFlags f w out)

/-- O32. Z is the complement of the tested bit, H set, N clear, C kept; under formula PV = Z and S =
the bit when it is bit 7, and F5, F3 are the register's, or bits 13 and 11 of the address for
the (XY+d) forms; every other undocumented bit is free. No register and no byte of memory
changes; a mirror's register field has no effect. (47_bit.md R400, 47_bit.md R401, 47_bit.md
R402, 47_bit.md R405, 00_scope.md R14) -/
def Obligations.BitTests : Prop :=
  ∀ (s : State) (b : Fin 8) (r : Reg8) (d : Byte),
    (∃ f k, Runs (.bitBR b r) s
        { s with cpu := { s.cpu with f := f }, clock := s.clock + 8, drawNo := k } [] ∧
      BitFlags s f b (s.cpu.get r) ∧
      (s.cfg.undocFlags = .formula →
        Undoc53 f ((s.cpu.get r).getLsbD 5) ((s.cpu.get r).getLsbD 3))) ∧
    (∃ f k, Runs (.bitBAtHL b) s
        { s.afterRead s.cpu.hl with
          cpu := { s.cpu with f := f }, clock := s.clock + 12, drawNo := k } [] ∧
      BitFlags s f b (s.readByte s.cpu.hl)) ∧
    (∀ i, i = .bitBAtIXd b d ∨ (∃ r', i = .bitBAtIXdMirror b d r') →
      let a := s.cpu.ix + sext16 d
      ∃ f k, Runs i s
          { s.afterRead a with
            cpu := { s.cpu with f := f }, clock := s.clock + 20, drawNo := k } [] ∧
        BitFlags s f b (s.readByte a) ∧
        (s.cfg.undocFlags = .formula → Undoc53 f (a.getLsbD 13) (a.getLsbD 11))) ∧
    (∀ i, i = .bitBAtIYd b d ∨ (∃ r', i = .bitBAtIYdMirror b d r') →
      let a := s.cpu.iy + sext16 d
      ∃ f k, Runs i s
          { s.afterRead a with
            cpu := { s.cpu with f := f }, clock := s.clock + 20, drawNo := k } [] ∧
        BitFlags s f b (s.readByte a) ∧
        (s.cfg.undocFlags = .formula → Undoc53 f (a.getLsbD 13) (a.getLsbD 11)))

/-- O33. SET makes bit b of the operand 1 and RES makes it 0, every other bit of it is kept; a
memory form stores its own byte alone, a copying form also writes the register with the result;
no flag changes, nothing else changes but the keyboard when the operand is in its region.
(47_bit.md R403, 47_bit.md R404, 47_bit.md R405, 46_rotate_shift.md R374) -/
def Obligations.BitSetReset : Prop :=
  ∀ (s : State) (b : Fin 8),
    (∀ m : MOperand,
      (∃ w, Runs (m.set b) s
          { m.put s w with clock := s.clock + m.cost 8 15 23 } (m.stored s) ∧
        ∀ k, w.getLsbD k = (decide (k = b.val) || (m.value s).getLsbD k)) ∧
      (∃ w, Runs (m.res b) s
          { m.put s w with clock := s.clock + m.cost 8 15 23 } (m.stored s) ∧
        ∀ k, w.getLsbD k = (!decide (k = b.val) && (m.value s).getLsbD k))) ∧
    (∀ (d : Byte) (r : Reg8),
      let a := s.cpu.ix + sext16 d
      (∃ w, Runs (.setBAtIXdR b d r) s
          { (s.afterRead a).memWrite a w with cpu := s.cpu.set r w, clock := s.clock + 23 } [a] ∧
        ∀ k, w.getLsbD k = (decide (k = b.val) || (s.readByte a).getLsbD k)) ∧
      (∃ w, Runs (.resBAtIXdR b d r) s
          { (s.afterRead a).memWrite a w with cpu := s.cpu.set r w, clock := s.clock + 23 } [a] ∧
        ∀ k, w.getLsbD k = (!decide (k = b.val) && (s.readByte a).getLsbD k))) ∧
    (∀ (d : Byte) (r : Reg8),
      let a := s.cpu.iy + sext16 d
      (∃ w, Runs (.setBAtIYdR b d r) s
          { (s.afterRead a).memWrite a w with cpu := s.cpu.set r w, clock := s.clock + 23 } [a] ∧
        ∀ k, w.getLsbD k = (decide (k = b.val) || (s.readByte a).getLsbD k)) ∧
      (∃ w, Runs (.resBAtIYdR b d r) s
          { (s.afterRead a).memWrite a w with cpu := s.cpu.set r w, clock := s.clock + 23 } [a] ∧
        ∀ k, w.getLsbD k = (!decide (k = b.val) && (s.readByte a).getLsbD k)))

/-- O34. A jump sets PC to its target when its condition holds and leaves it past the instruction
otherwise; JR cc costs 5 more and DJNZ 5 more when taken, JP cc the same either way; DJNZ
decrements B and jumps while it is not 0; conditions read F alone; no other register, flag or
byte changes. (48_control.md R420, 48_control.md R421, 48_control.md R422, 48_control.md R423,
48_control.md R424, 48_control.md R425, 48_control.md R426, 48_control.md R427) -/
def Obligations.Jumps : Prop :=
  ∀ (s : State) (cc : Cond) (jcc : JCond) (nn : Word) (e : Byte),
    let f := s.cpu.f
    let holds := match cc with
      | .nz => f.getLsbD 6 = false
      | .z => f.getLsbD 6 = true
      | .nc => f.getLsbD 0 = false
      | .c => f.getLsbD 0 = true
      | .po => f.getLsbD 2 = false
      | .pe => f.getLsbD 2 = true
      | .p => f.getLsbD 7 = false
      | .m => f.getLsbD 7 = true
    let jholds := match jcc with
      | .nz => f.getLsbD 6 = false
      | .z => f.getLsbD 6 = true
      | .nc => f.getLsbD 0 = false
      | .c => f.getLsbD 0 = true
    let goes (w : Word) (n : Nat) : State :=
      { s with cpu := { s.cpu with pc := w }, clock := s.clock + n }
    Runs (.jpNN nn) s (goes nn 10) [] ∧
    (holds → Runs (.jpCCNN cc nn) s (goes nn 10) []) ∧
    (¬holds → Runs (.jpCCNN cc nn) s (goes s.cpu.pc 10) []) ∧
    Runs (.jrE e) s (goes (s.cpu.pc + sext16 e) 12) [] ∧
    (jholds → Runs (.jrJCCE jcc e) s (goes (s.cpu.pc + sext16 e) 12) []) ∧
    (¬jholds → Runs (.jrJCCE jcc e) s (goes s.cpu.pc 7) []) ∧
    Runs .jpHL s (goes s.cpu.hl 4) [] ∧
    Runs .jpIX s (goes s.cpu.ix 8) [] ∧
    Runs .jpIY s (goes s.cpu.iy 8) [] ∧
    Runs (.djnzE e) s
      { s with
        cpu := { s.cpu with
          b := s.cpu.b - 1
          pc := if s.cpu.b = 1 then s.cpu.pc else s.cpu.pc + sext16 e }
        clock := if s.cpu.b = 1 then s.clock + 8 else s.clock + 13 } []

/-- O35. CALL and RST push the address after the instruction and go to their target, RST p to 8t;
RET pops PC; the conditional forms do so when the condition holds, at 7 and 6 cycles more, and
otherwise change the clock alone; RETI, RETN and its mirrors pop PC and copy IFF2 into IFF1; no
flag changes, nothing else changes but the keyboard when a popped byte is in its region.
(48_control.md R428, 48_control.md R429, 48_control.md R430, 48_control.md R431, 48_control.md
R432, 48_control.md R433, 48_control.md R434, 48_control.md R435, 48_control.md R421) -/
def Obligations.CallsReturns : Prop :=
  ∀ (s : State) (cc : Cond) (nn : Word) (t y : Fin 8),
    let calls (w : Word) (n : Nat) : State :=
      { s.push s.cpu.pc with
        cpu := { s.cpu with sp := s.cpu.sp - 2, pc := w }, clock := s.clock + n }
    let stored := [s.cpu.sp - 1, s.cpu.sp - 2]
    let returns (n : Nat) (iff1 : Bool) : State :=
      { s.afterReadWord s.cpu.sp with
        cpu := { s.cpu with sp := s.cpu.sp + 2, pc := s.readWord s.cpu.sp, iff1 := iff1 }
        clock := s.clock + n }
    Runs (.callNN nn) s (calls nn 17) stored ∧
    (condHolds cc s.cpu.f = true → Runs (.callCCNN cc nn) s (calls nn 17) stored) ∧
    (condHolds cc s.cpu.f = false →
      Runs (.callCCNN cc nn) s { s with clock := s.clock + 10 } []) ∧
    Runs (.rstP t) s (calls (BitVec.ofNat 16 (8 * t.val)) 11) stored ∧
    Runs .ret s (returns 10 s.cpu.iff1) [] ∧
    (condHolds cc s.cpu.f = true → Runs (.retCC cc) s (returns 11 s.cpu.iff1) []) ∧
    (condHolds cc s.cpu.f = false → Runs (.retCC cc) s { s with clock := s.clock + 5 } []) ∧
    Runs .reti s (returns 14 s.cpu.iff2) [] ∧
    Runs .retn s (returns 14 s.cpu.iff2) [] ∧
    Runs (.retnMirror y) s (returns 14 s.cpu.iff2) []

/-- O36. By the low byte of the port: E0 and E4 read the complemented latches, E8 to EB read FF, EC
to EF read FF and clear the timer latch bit; F0 first turns a motor that has timed out off (its
light off, NMI bit 6 raised) and clears NMI bit 7, and reads the status as it stands while the
last command is of Type II or III, else with bit 1 replaced by the index hole of a mounted disk
under a running motor and bit 6 by WriteProtect of a mounted disk; F1, F2 read the registers, F3
is the data read of statement DataRead, F8 to FB read 30, FC to FF the mode image over the
cassette bits and clear the cassette latch bits; F4 to F7 and every other port fault with
UnknownPortIn, or read FF when unknown ports float. (20_memory.md R100, 20_memory.md R107,
20_memory.md R110, 62_floppy_controller.md R589, 62_floppy_controller.md R590,
62_floppy_controller.md R630) -/
def Obligations.PortReads : Prop :=
  ∀ (s : State) (port : Word),
    let p := (lo port).toNat
    let clear (m : Byte) : State :=
      { s with lat := { s.lat with irqLatch := s.lat.irqLatch &&& ~~~m } }
    let out := s.fdc.motorOn && decide (s.fdc.motorTimeout ≤ s.clock)
    let mounted := decide ((s.drv[s.fdc.drive]).kind ≠ .none)
    let view := s.fdc.command.toNat < 0x80 ∨
      (0xD0 ≤ s.fdc.command.toNat ∧ s.fdc.command.toNat < 0xE0)
    (p = 0xE0 → s.ioRead port = .ok (~~~s.lat.irqLatch, s)) ∧
    (p = 0xE4 → s.ioRead port = .ok (~~~s.lat.nmiLatch, s)) ∧
    (0xE8 ≤ p ∧ p ≤ 0xEB → s.ioRead port = .ok (0xFF, s)) ∧
    (0xEC ≤ p ∧ p ≤ 0xEF → s.ioRead port = .ok (0xFF, clear 0x04)) ∧
    (p = 0xF0 → s.ioRead port = .ok
      (if view then
          (s.fdc.status &&& 0xBD) |||
            (if s.fdc.motorOn ∧ out = false ∧ mounted = true ∧ s.clock % 405504 < 4055 then 0x02
              else 0x00) |||
            (if mounted then 0x40 else 0x00)
        else s.fdc.status,
        { s with
          fdc := { s.fdc with motorOn := s.fdc.motorOn && !out }
          lat := s.lat.withNmi
            ((if out then s.lat.nmiLatch ||| 0x40 else s.lat.nmiLatch) &&& 0x7F)
          outputs := s.outputs ++ if out then [.motorLight s.fdc.drive.val false] else [] })) ∧
    (p = 0xF1 → s.ioRead port = .ok (s.fdc.track, s)) ∧
    (p = 0xF2 → s.ioRead port = .ok (s.fdc.sector, s)) ∧
    (p = 0xF3 → s.ioRead port = .ok (s.dataRead, s.afterDataRead)) ∧
    (0xF8 ≤ p ∧ p ≤ 0xFB → s.ioRead port = .ok (0x30, s)) ∧
    (0xFC ≤ p → s.ioRead port =
      .ok ((s.modeImage &&& 0x7E) ||| (if s.cas.flipflop then 0x80 else 0x00) |||
        (if s.cas.lastNonNeutral = .positive then 0x01 else 0x00), clear 0x03)) ∧
    (p < 0xE0 ∨ (0xE1 ≤ p ∧ p ≤ 0xE3) ∨ (0xE5 ≤ p ∧ p ≤ 0xE7) ∨ (0xF4 ≤ p ∧ p ≤ 0xF7) →
      (s.cfg.unknownPorts = .float → s.ioRead port = .ok (0xFF, s)) ∧
      (s.cfg.unknownPorts = .fatal → s.ioRead port =
        .error (.fatal (.unknownPortIn (lo port))
          { s with fault := some (.unknownPortIn (lo port)) })))

/-- O37. By the low byte of the port: E0 writes the IRQ mask, E4 the NMI mask with bit 5 forced and
NmiUpdate, E8 to EB and F8 to FB nothing, F0 is the command write and F4 to F7 the drive select
of the statements DiskCommands, SectorRead and DriveSelect, F1 to F3 the registers, FC to FF
clear the flip-flop when bit 5 of the byte is 0. EC to EF record the mode image and report a
change of bit 2; a change of bit 1 is the cassette motor and its light: off closes the tape; on
opens it when closed (Fail when it does not parse, a BadWav fault when it is not PCM, mono,
16-bit, else replay starts at this clock) and schedules a kick-off 2,027,520 cycles on when a
cassette interrupt is unmasked. A port outside the map faults with UnknownPortOut, or does
nothing when unknown ports float. That the opened file is held in the field tape is the model's
choice (log entry 15). (20_memory.md R101, 20_memory.md R105, 20_memory.md R110,
60_exceptions.md R512, 63_cassette.md R662, 63_cassette.md R663) -/
def Obligations.PortWrites : Prop :=
  ∀ (s : State) (port : Word) (v : Byte),
    let p := (lo port).toNat
    (p = 0xE0 → s.ioWrite port v = .ok { s with lat := { s.lat with irqMask := v } }) ∧
    (p = 0xE4 → s.ioWrite port v =
      .ok { s with
        lat := { s.lat with
          nmiMask := v ||| 0x20
          nmiSeen := s.lat.nmiSeen && decide ((v ||| 0x20) &&& s.lat.nmiLatch ≠ 0) } }) ∧
    ((0xE8 ≤ p ∧ p ≤ 0xEB) ∨ (0xF8 ≤ p ∧ p ≤ 0xFB) → s.ioWrite port v = .ok s) ∧
    (0xEC ≤ p ∧ p ≤ 0xEF →
      let on := v.getLsbD 1
      let light := s.outputs ++ if on = s.cas.motor then [] else [.motorLight (-1) on]
      let opens := on = true ∧ s.cas.motor = false ∧ s.cas.state = .close
      (∀ w, opens → s.cas.source.bind parseWav = some w →
        (w.fmt.format ≠ 1 ∨ w.fmt.channels ≠ 1 ∨ w.fmt.bits ≠ 16) →
        s.ioWrite port v = .error (.fatal .badWav
          { s with
            modeImage := v, cas := { s.cas with motor := true }, outputs := light
            fault := some .badWav })) ∧
      ((opens → s.cas.Openable) → ∃ t, s.ioWrite port v = .ok t ∧
        t = { s with
          modeImage := v, cas := t.cas, events := t.events, seqNo := t.seqNo
          outputs := light ++
            if v.getLsbD 2 = s.modeImage.getLsbD 2 then [] else [.expanded (v.getLsbD 2)] } ∧
        (on = s.cas.motor → t.cas = s.cas) ∧
        (on = false → s.cas.motor = true → t.cas = { s.cas with motor := false, state := .close }) ∧
        (on = true → s.cas.motor = false → s.cas.state ≠ .close →
          t.cas = { s.cas with motor := true }) ∧
        (opens → s.cas.source.bind parseWav = none →
          t.cas = { s.cas with motor := true, state := .fail }) ∧
        (∀ w, opens → s.cas.source.bind parseWav = some w → t.cas =
          { s.cas with
            motor := true, state := .read, motorOnClock := s.clock, samplesRead := 0
            last := .neutral, tape := ⟨w.fmt.rate, w.samples⟩ }) ∧
        (on = true ∧ s.cas.motor = false ∧ s.lat.irqMask &&& 0x03 ≠ 0 →
          t.seqNo = s.seqNo + 1 ∧
          ∀ e, e ∈ t.events ↔ e ∈ s.events ∨ e = ⟨0x08, s.clock + 2027520, s.seqNo, .kickOff⟩) ∧
        (¬(on = true ∧ s.cas.motor = false ∧ s.lat.irqMask &&& 0x03 ≠ 0) →
          t.seqNo = s.seqNo ∧ t.events = s.events))) ∧
    (p = 0xF0 → s.ioWrite port v = s.fdcCommand v) ∧
    (p = 0xF1 → s.ioWrite port v = .ok { s with fdc := { s.fdc with track := v } }) ∧
    (p = 0xF2 → s.ioWrite port v = .ok { s with fdc := { s.fdc with sector := v } }) ∧
    (p = 0xF3 → s.ioWrite port v = .ok { s with fdc := { s.fdc with data := v } }) ∧
    (0xF4 ≤ p ∧ p ≤ 0xF7 → s.ioWrite port v = .ok (s.fdcSelect v)) ∧
    (0xFC ≤ p → s.ioWrite port v =
      .ok (if v.getLsbD 5 then s else { s with cas := { s.cas with flipflop := false } })) ∧
    (p < 0xE0 ∨ (0xE1 ≤ p ∧ p ≤ 0xE3) ∨ (0xE5 ≤ p ∧ p ≤ 0xE7) →
      (s.cfg.unknownPorts = .float → s.ioWrite port v = .ok s) ∧
      (s.cfg.unknownPorts = .fatal → s.ioWrite port v =
        .error (.fatal (.unknownPortOut (lo port))
          { s with fault := some (.unknownPortOut (lo port)) })))

/-- O38. On a port the read router lists, or on any port when unknown ports float, the form
completes: it reads port {A, n} or BC, the register takes the byte (IN F,(C) writes none), the
(C) forms set S, Z, F5, F3, PV (parity) from it, clear H and N and keep C; devices may change as
the port read says, nothing else does; no byte of memory changes. On any other port they fault
with UnknownPortIn of its low byte and change nothing else. (49_io.md R460, 49_io.md R461,
49_io.md R462, 20_memory.md R110, 60_exceptions.md R500) -/
def Obligations.InputForms : Prop :=
  ∀ (s : State) (n : Byte) (r : Reg8),
    (s.InAdmitted (pair s.cpu.a n) → ∃ v u, s.ioRead (pair s.cpu.a n) = .ok (v, u) ∧
      DevicesOnly s u ∧
      Runs (.inAAtN n) s
        { u with cpu := { s.cpu with a := v }, clock := s.clock + 11 } []) ∧
    (s.InAdmitted s.cpu.bc → ∃ v u f, s.ioRead s.cpu.bc = .ok (v, u) ∧ DevicesOnly s u ∧
      Runs (.inRAtC r) s
        { u with cpu := { s.cpu.set r v with f := f }, clock := s.clock + 12 } [] ∧
      Runs .inFAtC s
        { u with cpu := { s.cpu with f := f }, clock := s.clock + 12 } [] ∧
      FlagBits f (v.getLsbD 7) (decide (v = 0)) false (parity v) false (s.cpu.f.getLsbD 0) ∧
      Undoc53 f (v.getLsbD 5) (v.getLsbD 3)) ∧
    (¬s.InAdmitted (pair s.cpu.a n) → exec (.inAAtN n) s =
      .fault (.fatal (.unknownPortIn n) { s with fault := some (.unknownPortIn n) })) ∧
    (¬s.InAdmitted s.cpu.bc → ∀ i, i = .inRAtC r ∨ i = .inFAtC → exec i s =
      .fault (.fatal (.unknownPortIn s.cpu.c) { s with fault := some (.unknownPortIn s.cpu.c) }))

/-- O39. When the port is known (or unknown ports float), the byte is no refused disk command and no
bad tape is opened by it, the form completes: the byte goes to port {A, n} or BC, devices may
change as the port write says, nothing else does, no flag and no byte of memory changes. A fault
of the port write is the instruction's; to an unknown port they fault with UnknownPortOut of its
low byte and change nothing else. (49_io.md R467, 49_io.md R468, 49_io.md R469, 20_memory.md
R110, 62_floppy_controller.md R592, 63_cassette.md R663) -/
def Obligations.OutputForms : Prop :=
  ∀ (s : State) (n : Byte) (r : Reg8),
    (s.OutAdmitted (pair s.cpu.a n) s.cpu.a → ∃ u, s.ioWrite (pair s.cpu.a n) s.cpu.a = .ok u ∧
      DevicesOnly s u ∧ Runs (.outAtNA n) s { u with clock := s.clock + 11 } []) ∧
    (s.OutAdmitted s.cpu.bc (s.cpu.get r) → ∃ u, s.ioWrite s.cpu.bc (s.cpu.get r) = .ok u ∧
      DevicesOnly s u ∧ Runs (.outAtCR r) s { u with clock := s.clock + 12 } []) ∧
    (s.OutAdmitted s.cpu.bc 0x00 → ∃ u, s.ioWrite s.cpu.bc 0x00 = .ok u ∧
      DevicesOnly s u ∧ Runs .outAtC0 s { u with clock := s.clock + 12 } []) ∧
    (∀ f,
      (s.ioWrite (pair s.cpu.a n) s.cpu.a = .error f → exec (.outAtNA n) s = .fault f) ∧
      (s.ioWrite s.cpu.bc (s.cpu.get r) = .error f → exec (.outAtCR r) s = .fault f) ∧
      (s.ioWrite s.cpu.bc 0x00 = .error f → exec .outAtC0 s = .fault f)) ∧
    (s.cfg.unknownPorts = .fatal → decodePort n = .unknown → exec (.outAtNA n) s =
      .fault (.fatal (.unknownPortOut n) { s with fault := some (.unknownPortOut n) })) ∧
    (s.cfg.unknownPorts = .fatal → decodePort s.cpu.c = .unknown →
      ∀ i, i = .outAtCR r ∨ i = .outAtC0 → exec i s =
        .fault (.fatal (.unknownPortOut s.cpu.c)
          { s with fault := some (.unknownPortOut s.cpu.c) }))

/-- O40. The byte read from port BC (B before the decrement) goes to HL, HL steps by +1 or -1, B
goes down; Z = (new B is 0), the other flags by the formula of R474 when UNDOC_FLAGS is formula
and free under draw; the repeating forms go back 2 bytes and cost 21 while B is not 0; devices
may change as the port read says; the byte at HL is the only one stored to. On a port the read
router does not list, under UNKNOWN_PORT_POLICY = fatal, the four forms fault with UnknownPortIn
of C before any of this: nothing else changes. (49_io.md R463, 49_io.md R464, 49_io.md R465,
49_io.md R466, 49_io.md R474, 42_exchange_block.md R265, 20_memory.md R110) -/
def Obligations.BlockInput : Prop :=
  ∀ s : State,
    (¬s.InAdmitted s.cpu.bc → ∀ i ∈ ([.ini, .inir, .ind, .indr] : List Instr), exec i s =
      .fault (.fatal (.unknownPortIn s.cpu.c) { s with fault := some (.unknownPortIn s.cpu.c) })) ∧
    (s.InAdmitted s.cpu.bc →
      ∃ v u, s.ioRead s.cpu.bc = .ok (v, u) ∧ DevicesOnly s u ∧
      (∃ f k, f.getLsbD 6 = decide (s.cpu.b = 1) ∧
        (s.cfg.undocFlags = .formula → BlockIoFlags f v (s.cpu.b - 1) (v.toNat + (s.cpu.c + 1).toNat)) ∧
        Runs .ini s
          { u.memWrite s.cpu.hl v with
            cpu := { s.cpu.setHL (s.cpu.hl + 1) with
              b := s.cpu.b - 1, f := f, pc := s.cpu.pc }
            clock := s.clock + 16
            drawNo := k } [s.cpu.hl] ∧
        Runs .inir s
          { u.memWrite s.cpu.hl v with
            cpu := { s.cpu.setHL (s.cpu.hl + 1) with
              b := s.cpu.b - 1, f := f, pc := if s.cpu.b = 1 then s.cpu.pc else s.cpu.pc - 2 }
            clock := if s.cpu.b = 1 then s.clock + 16 else s.clock + 21
            drawNo := k } [s.cpu.hl]) ∧
      (∃ f k, f.getLsbD 6 = decide (s.cpu.b = 1) ∧
        (s.cfg.undocFlags = .formula → BlockIoFlags f v (s.cpu.b - 1) (v.toNat + (s.cpu.c - 1).toNat)) ∧
        Runs .ind s
          { u.memWrite s.cpu.hl v with
            cpu := { s.cpu.setHL (s.cpu.hl + (-1)) with
              b := s.cpu.b - 1, f := f, pc := s.cpu.pc }
            clock := s.clock + 16
            drawNo := k } [s.cpu.hl] ∧
        Runs .indr s
          { u.memWrite s.cpu.hl v with
            cpu := { s.cpu.setHL (s.cpu.hl + (-1)) with
              b := s.cpu.b - 1, f := f, pc := if s.cpu.b = 1 then s.cpu.pc else s.cpu.pc - 2 }
            clock := if s.cpu.b = 1 then s.clock + 16 else s.clock + 21
            drawNo := k } [s.cpu.hl]))

/-- O41. B goes down first, the byte at HL goes to port {new B, C}, HL steps by +1 or -1; Z = (new B
is 0), the other flags by the formula of R474 with the new L when UNDOC_FLAGS is formula and
free under draw; the repeating forms go back 2 bytes and cost 21 while B is not 0; devices may
change as the port write says, the keyboard when HL is in its region; no byte of memory changes.
A fault of the port write is the instruction's, and comes after B has gone down and the byte at
HL has been read: to an unknown port, under UNKNOWN_PORT_POLICY = fatal, the four forms fault
with UnknownPortOut of C and change nothing else. (49_io.md R470, 49_io.md R471, 49_io.md R472,
49_io.md R473, 49_io.md R474, 42_exchange_block.md R265, 20_memory.md R110) -/
def Obligations.BlockOutput : Prop :=
  ∀ s : State,
    let v := s.readByte s.cpu.hl
    let port := pair (s.cpu.b - 1) s.cpu.c
    let t : State := { s.afterRead s.cpu.hl with cpu := { s.cpu with b := s.cpu.b - 1 } }
    let forms : List Instr := [.outi, .otir, .outd, .otdr]
    (∀ f, t.ioWrite port v = .error f → ∀ i ∈ forms, exec i s = .fault f) ∧
    (s.cfg.unknownPorts = .fatal → decodePort s.cpu.c = .unknown → ∀ i ∈ forms, exec i s =
      .fault (.fatal (.unknownPortOut s.cpu.c) { t with fault := some (.unknownPortOut s.cpu.c) })) ∧
    (s.OutAdmitted port v →
      ∃ u, t.ioWrite port v = .ok u ∧ DevicesOnly t u ∧
      (∃ f k, f.getLsbD 6 = decide (s.cpu.b = 1) ∧
        (s.cfg.undocFlags = .formula → BlockIoFlags f v (s.cpu.b - 1) (v.toNat + (lo (s.cpu.hl + 1)).toNat)) ∧
        Runs .outi s
          { u with
            cpu := { s.cpu.setHL (s.cpu.hl + 1) with
              b := s.cpu.b - 1, f := f, pc := s.cpu.pc }
            clock := s.clock + 16
            drawNo := k } [] ∧
        Runs .otir s
          { u with
            cpu := { s.cpu.setHL (s.cpu.hl + 1) with
              b := s.cpu.b - 1, f := f, pc := if s.cpu.b = 1 then s.cpu.pc else s.cpu.pc - 2 }
            clock := if s.cpu.b = 1 then s.clock + 16 else s.clock + 21
            drawNo := k } []) ∧
      (∃ f k, f.getLsbD 6 = decide (s.cpu.b = 1) ∧
        (s.cfg.undocFlags = .formula → BlockIoFlags f v (s.cpu.b - 1) (v.toNat + (lo (s.cpu.hl - 1)).toNat)) ∧
        Runs .outd s
          { u with
            cpu := { s.cpu.setHL (s.cpu.hl + (-1)) with
              b := s.cpu.b - 1, f := f, pc := s.cpu.pc }
            clock := s.clock + 16
            drawNo := k } [] ∧
        Runs .otdr s
          { u with
            cpu := { s.cpu.setHL (s.cpu.hl + (-1)) with
              b := s.cpu.b - 1, f := f, pc := if s.cpu.b = 1 then s.cpu.pc else s.cpu.pc - 2 }
            clock := if s.cpu.b = 1 then s.clock + 16 else s.clock + 21
            drawNo := k } []))

/-- O42. Whenever an instruction completes, the clock has grown by the cycles of its row of the
opcode table, or by those plus the row's taken extra. (70_reset_and_hazards.md R730,
60_exceptions.md R530) -/
def Obligations.ClockLaw : Prop :=
  ∀ (i : Instr) (s t : State), exec i s = .next t →
    t.clock = s.clock + i.cycles ∨ t.clock = s.clock + i.cycles + i.takenExtra

/-- O43. An instruction other than EX AF,AF' and EXX leaves the alternate set as it was, and run on
a state that differs in the alternate set alone it gives the same outcome with that alternate
set in place: it neither writes nor reads it. (10_state.md R31, 30_encoding.md R146) -/
def Obligations.AlternateSet : Prop :=
  ∀ (i : Instr) (s t : State), i ≠ .exAFAF' → i ≠ .exx → exec i s = .next t →
    t.cpu.a' = s.cpu.a' ∧ t.cpu.f' = s.cpu.f' ∧ t.cpu.b' = s.cpu.b' ∧ t.cpu.c' = s.cpu.c' ∧
      t.cpu.d' = s.cpu.d' ∧ t.cpu.e' = s.cpu.e' ∧ t.cpu.h' = s.cpu.h' ∧ t.cpu.l' = s.cpu.l' ∧
      ∀ c : Regs, exec i (s.withAlternates c) = .next (t.withAlternates c)

/-- O44. I is written by LD I,A alone and R by LD R,A alone; IM by the IM instructions and their
mirrors alone; IFF1 by DI, EI, RETI, RETN and its mirrors alone and IFF2 by DI and EI alone;
halted by HALT alone and the EI shadow by EI alone. (10_state.md R58, 10_state.md R37,
10_state.md R38, 10_state.md R39, 10_state.md R40, 10_state.md R41, 10_state.md R42) -/
def Obligations.ControlStateWriters : Prop :=
  ∀ (i : Instr) (s t : State), exec i s = .next t →
    (t.cpu.i ≠ s.cpu.i → i = .ldVectorA) ∧
    (t.cpu.r ≠ s.cpu.r → i = .ldRefreshA) ∧
    (t.cpu.im ≠ s.cpu.im →
      i = .im0 ∨ i = .im1 ∨ i = .im2 ∨ i = .im1Mirror ∨ i = .im2Mirror ∨ ∃ y, i = .im0Mirror y) ∧
    (t.cpu.iff1 ≠ s.cpu.iff1 →
      i = .di ∨ i = .ei ∨ i = .reti ∨ i = .retn ∨ ∃ y, i = .retnMirror y) ∧
    (t.cpu.iff2 ≠ s.cpu.iff2 → i = .di ∨ i = .ei) ∧
    (t.cpu.halted ≠ s.cpu.halted → i = .halt) ∧
    (t.cpu.eiShadow ≠ s.cpu.eiShadow → i = .ei)

/-- O45. Whatever a step does, host actions, interrupts and devices included, every byte below
ROM_SIZE and ROM_SIZE itself are the same after it, and the clock has not gone back. The
parameters of R8 are the same too: that they stand in State, where no step writes them, is the
model's choice (log entry 4). (20_memory.md R82, 70_reset_and_hazards.md R716, 10_state.md R49,
00_scope.md R8) -/
def Obligations.RomNeverChanges : Prop :=
  ∀ s t : State, step s = .next t →
    t.romSize = s.romSize ∧ t.cfg = s.cfg ∧ s.clock ≤ t.clock ∧
      ∀ n, n < s.romSize → t.mem.get n = s.mem.get n

/-- O46. From every state that meets the invariant, a step that answers a next state gives one that
meets it: memory canonical, the reset bit in the NMI mask, the suppressor set only under a
pending unmasked NMI, the latch bits without a source 0, heads below MAXTRACKS, NotReady never
set, drives 2 and 3 empty, the event queue sorted with fresh sequence numbers and kinds that
match their actions, and no keyboard cell without a legend set or about to be set by a queued
activity. (10_state.md R45, 10_state.md R46, 60_exceptions.md R510, 60_exceptions.md R511,
61_event_scheduler.md R560, 62_floppy_controller.md R594, 64_keyboard.md R695) -/
def Obligations.StepKeepsInv : Prop :=
  ∀ s t : State, s.Inv → step s = .next t → t.Inv

/-- O47. The machine right after creation meets the invariant, and so does a machine created with
any ROM image, policies and canonical RAM contents. (70_reset_and_hazards.md R710,
70_reset_and_hazards.md R711) -/
def Obligations.ResetInv : Prop :=
  State.reset.Inv ∧
    ∀ (cfg : Config) (rom : List Byte) (ram : Memory), ram.wf = true → (State.powerOn cfg rom ram).Inv

/-- O48. When an unmasked NMI latch bit is pending and not suppressed, the interrupt check enters at
0066 whatever IFF1 and the EI shadow say: IFF2 takes IFF1, IFF1 clears, SP goes down by 2,
halted and the shadow clear, PC is pushed (plus 1 when halted under HALT_RESUME = flag, when the
byte read at PC is 76 under opcode_at_pc), and with the stack in RAM the word at SP is that; the
reset-button bit clears and no other latch bit; INT_ACK_CYCLES.nmi are added; nothing else
changes, but that under opcode_at_pc the read of the byte at PC may dequeue a key (the model's
choice, log entry 18). (60_exceptions.md R520, 60_exceptions.md R531, 60_exceptions.md R512) -/
def Obligations.NmiEntryEffect : Prop :=
  ∀ s : State, s.lat.nmiMask &&& s.lat.nmiLatch ≠ 0 → s.lat.nmiSeen = false →
    let resume := match s.cfg.haltResume with
      | .flag => s.cpu.halted
      | .opcodeAtPc => decide (s.readByte s.cpu.pc = 0x76)
    let u := match s.cfg.haltResume with
      | .flag => s
      | .opcodeAtPc => s.afterRead s.cpu.pc
    let saved := if resume then s.cpu.pc + 1 else s.cpu.pc
    ∃ t, s.interruptCheck = .ok t ∧
      t = { u.push saved with
        cpu := { s.cpu with
          pc := 0x0066, sp := s.cpu.sp - 2, iff1 := false, iff2 := s.cpu.iff1, halted := false
          eiShadow := false }
        lat := { s.lat with
          nmiLatch := s.lat.nmiLatch &&& 0xDF
          nmiSeen := decide (s.lat.nmiMask &&& s.lat.nmiLatch &&& 0xDF ≠ 0) }
        clock := s.clock + s.cfg.nmiAckCycles } ∧
      (s.writable (s.cpu.sp - 1) = true → s.writable (s.cpu.sp - 2) = true →
        t.readWord t.cpu.sp = saved) ∧
      SameBytes s t [s.cpu.sp - 1, s.cpu.sp - 2]

/-- O49. When no NMI is taken, an unmasked IRQ latch bit is pending, IFF1 is set and the EI shadow
is clear: in mode 1 the interrupt check enters at 0038, IFF1 clears, IFF2 is kept (cleared when
IRQ_CLEARS_IFF2), halted clears, PC (past a HALT, by the test of HALT_RESUME) goes on the stack,
no latch bit changes, INT_ACK_CYCLES.irq are added, nothing else changes but that under
opcode_at_pc the read of the byte at PC may dequeue a key (the model's choice, log entry 18); in
mode 0 or 2 it faults with InterruptMode and changes nothing else. When neither is taken the
check clears the EI shadow and changes nothing else. (44_general_cpu.md R327, 44_general_cpu.md
R328, 60_exceptions.md R520, 60_exceptions.md R521, 60_exceptions.md R522, 60_exceptions.md
R531) -/
def Obligations.IrqEntryEffect : Prop :=
  ∀ s : State, s.lat.nmiMask &&& s.lat.nmiLatch = 0 ∨ s.lat.nmiSeen = true →
    let resume := match s.cfg.haltResume with
      | .flag => s.cpu.halted
      | .opcodeAtPc => decide (s.readByte s.cpu.pc = 0x76)
    let u := match s.cfg.haltResume with
      | .flag => s
      | .opcodeAtPc => s.afterRead s.cpu.pc
    let saved := if resume then s.cpu.pc + 1 else s.cpu.pc
    (s.lat.irqMask &&& s.lat.irqLatch = 0 ∨ s.cpu.iff1 = false ∨ s.cpu.eiShadow = true →
      s.interruptCheck = .ok { s with cpu := { s.cpu with eiShadow := false } }) ∧
    (s.lat.irqMask &&& s.lat.irqLatch ≠ 0 → s.cpu.iff1 = true → s.cpu.eiShadow = false →
      s.cpu.im ≠ .im1 → s.interruptCheck =
        .error (.fatal (.interruptMode s.cpu.im)
          { s with fault := some (.interruptMode s.cpu.im) })) ∧
    (s.lat.irqMask &&& s.lat.irqLatch ≠ 0 → s.cpu.iff1 = true → s.cpu.eiShadow = false →
      s.cpu.im = .im1 → ∃ t, s.interruptCheck = .ok t ∧
      t = { u.push saved with
        cpu := { s.cpu with
          pc := 0x0038, sp := s.cpu.sp - 2, iff1 := false
          iff2 := if s.cfg.irqClearsIff2 then false else s.cpu.iff2, halted := false
          eiShadow := false }
        clock := s.clock + s.cfg.irqAckCycles } ∧
      (s.writable (s.cpu.sp - 1) = true → s.writable (s.cpu.sp - 2) = true →
        t.readWord t.cpu.sp = saved) ∧
      SameBytes s t [s.cpu.sp - 1, s.cpu.sp - 2])

/-- O50. At the last stage of a step, when the clock has reached nextTimer, IRQ latch bit 2 is set,
the motor-off check runs (motor on and timed out: motor off, light off, NMI latch bit 6), and
nextTimer grows by 67,584, once; before that nothing changes. nextTimer is 67,584 at creation.
(60_exceptions.md R514, 62_floppy_controller.md R589) -/
def Obligations.TimerTick : Prop :=
  State.reset.nextTimer = 67584 ∧
    ∀ s : State,
      (s.clock < s.nextTimer → s.timerCheck = s) ∧
      (s.nextTimer ≤ s.clock →
        s.timerCheck =
          { (s.raiseIrq 0x04).checkDiskMotorOff with nextTimer := s.nextTimer + 67584 } ∧
        (s.timerCheck).lat.irqLatch = s.lat.irqLatch ||| 0x04 ∧
        (s.fdc.motorOn = false ∨ s.clock < s.fdc.motorTimeout →
          s.timerCheck = { s.raiseIrq 0x04 with nextTimer := s.nextTimer + 67584 }) ∧
        (s.fdc.motorOn = true → s.fdc.motorTimeout ≤ s.clock →
          s.timerCheck.fdc = { s.fdc with motorOn := false } ∧
          s.timerCheck.lat.nmiLatch = s.lat.nmiLatch ||| 0x40 ∧
          s.timerCheck.outputs = s.outputs ++ [.motorLight s.fdc.drive.val false]))

/-- O51. While the head of the queue is due, the dispatch is the dispatch of its action run on the
state without it; with an empty queue or a head not yet due it changes nothing. DiskDone clears
its status bits and raises NMI bit 7; LostData sets LostData, clears Busy and DRQ, zeroes the
byte count and raises NMI bit 7; FirstDrq sets DRQ and schedules a LostData watchdog 1,013,760
cycles on; KickOff raises IRQ bits 0 and 1 while the cassette motor is on; they change nothing
else. From a sorted queue, no due event is left after the dispatch, every event not yet due is
still there, every event added is a LostData watchdog, the queue stays sorted and the clock
stays. (61_event_scheduler.md R562, 61_event_scheduler.md R561, 61_event_scheduler.md R566,
62_floppy_controller.md R599, 62_floppy_controller.md R600, 62_floppy_controller.md R601,
63_cassette.md R667) -/
def Obligations.DispatchRunsDue : Prop :=
  (∀ s : State,
      (∀ e rest, s.events = e :: rest → e.fireClock ≤ s.clock →
        s.dispatch = (({ s with events := rest } : State).runAction e.action).dispatch) ∧
      ((∀ e rest, s.events = e :: rest → s.clock < e.fireClock) → s.dispatch = s)) ∧
    (∀ (s : State) (bits : Byte),
      s.runAction (.diskDone bits) =
        { s with
          fdc := { s.fdc with status := s.fdc.status &&& ~~~bits }
          lat := s.lat.withNmi (s.lat.nmiLatch ||| 0x80) } ∧
      s.runAction .lostData =
        { s with
          fdc := { s.fdc with status := (s.fdc.status ||| 0x04) &&& 0xFC, byteCount := 0 }
          lat := s.lat.withNmi (s.lat.nmiLatch ||| 0x80) } ∧
      (∃ l, s.runAction .firstDrq =
          { s with
            fdc := { s.fdc with status := s.fdc.status ||| 0x02 }
            events := l, seqNo := s.seqNo + 1 } ∧
        ∀ e, e ∈ l ↔ e ∈ s.events ∨ e = ⟨0x02, s.clock + 1013760, s.seqNo, .lostData⟩) ∧
      s.runAction .kickOff =
        (if s.cas.motor then { s with lat := { s.lat with irqLatch := s.lat.irqLatch ||| 0x03 } }
          else s)) ∧
    ∀ s : State, s.Inv →
      (∀ e ∈ s.dispatch.events, s.clock < e.fireClock) ∧
      (∀ e ∈ s.events, s.clock < e.fireClock → e ∈ s.dispatch.events) ∧
      (∀ e ∈ s.dispatch.events, e ∈ s.events ∨ e.action = .lostData) ∧
      s.dispatch.events.Pairwise (fun x y => x.before y = true) ∧
      s.dispatch.clock = s.clock

/-- O52. From a sorted queue with fresh sequence numbers, schedule adds exactly the entry (kind,
clock plus delta, seqNo, action), keeps the queue sorted and the entry after all with the same
fire clock, and advances seqNo; cancel keeps exactly the entries whose kind has no bit of the
mask, in order; nothing else of the state changes. (61_event_scheduler.md R560,
61_event_scheduler.md R561, 61_event_scheduler.md R563) -/
def Obligations.QueueOperations : Prop :=
  ∀ (s : State) (k m : Byte) (d : Nat) (x : EventAction), s.Inv →
    (s.schedule k d x).events.Perm (⟨k, s.clock + d, s.seqNo, x⟩ :: s.events) ∧
    (s.schedule k d x).events.Pairwise (fun p q => p.before q = true) ∧
    s.schedule k d x =
      { s with events := (s.schedule k d x).events, seqNo := s.seqNo + 1 } ∧
    (s.cancel m).events.Sublist s.events ∧
    (∀ e, e ∈ (s.cancel m).events ↔ e ∈ s.events ∧ e.kind &&& m = 0) ∧
    s.cancel m = { s with events := (s.cancel m).events }

/-- O53. With an activity queued and the clock at or past nextClock, the first is removed: a press
sets its row bit and takes its force, a release clears the bit and the force goes to neutral; no
other bit or row changes; nextClock becomes the clock plus 40,000. Otherwise nothing changes.
(64_keyboard.md R693) -/
def Obligations.KeyboardDequeue : Prop :=
  ∀ s : State,
    (s.kbd.queue = [] ∨ s.clock < s.kbd.nextClock → s.keyDequeue = s) ∧
    (∀ k rest, s.kbd.queue = k :: rest → s.kbd.nextClock ≤ s.clock →
      s.keyDequeue = { s with kbd := s.keyDequeue.kbd } ∧
      s.keyDequeue.kbd.queue = rest ∧ s.keyDequeue.kbd.nextClock = s.clock + 40000 ∧
      s.keyDequeue.kbd.shiftForce = (if k.pressed then k.force else .neutral) ∧
      ∀ (i j : Fin 8), (s.keyDequeue.kbd.rows[i]).getLsbD j.val =
        if i = k.row ∧ j = k.bit then k.pressed else (s.kbd.rows[i]).getLsbD j.val)

/-- O54. Bit j of a scan is set exactly when some row i whose address bit is set has it: rows 0 to 6
as stored, row 7 as stored, with bits 0 and 1 clear under ForceUp and bit 0 set under ForceDown.
(64_keyboard.md R692, 64_keyboard.md R694) -/
def Obligations.KeyboardScan : Prop :=
  ∀ (kb : Keyboard) (a : Word) (j : Fin 8),
    (kb.scan a).getLsbD j.val = true ↔
      ∃ i : Fin 8, a.getLsbD i.val = true ∧
        ((i ≠ 7 ∧ (kb.rows[i]).getLsbD j.val = true) ∨
          (i = 7 ∧ match kb.shiftForce with
            | .neutral => (kb.rows[i]).getLsbD j.val = true
            | .forceUp => (kb.rows[i]).getLsbD j.val = true ∧ 2 ≤ j.val
            | .forceDown => (kb.rows[i]).getLsbD j.val = true ∨ j.val = 0))

/-- O55. The motor-off NMI bit clears, side and density are latched; with a drive bit set the lowest
one becomes the drive, the motor is on with timeout clock plus 4,055,040, and the lights change
as the rule says; with none nothing else changes. No other controller register, event or byte
changes. (62_floppy_controller.md R583, 62_floppy_controller.md R588) -/
def Obligations.DriveSelect : Prop :=
  ∀ (s : State) (v : Byte),
    let t := s.fdcSelect v
    t.lat = s.lat.withNmi (s.lat.nmiLatch &&& 0xBF) ∧
    (v &&& 0x0F = 0 →
      t.fdc = { s.fdc with side := v.getLsbD 4, density := v.getLsbD 7 } ∧ t.outputs = s.outputs) ∧
    (∀ n : Fin 4, v.getLsbD n.val = true → (∀ m : Fin 4, m < n → v.getLsbD m.val = false) →
      t.fdc = { s.fdc with
        side := v.getLsbD 4, density := v.getLsbD 7, drive := n, motorOn := true
        motorTimeout := s.clock + 4055040 } ∧
      t.outputs = s.outputs ++
        (if s.fdc.motorOn then
          (if n = s.fdc.drive then []
            else [.motorLight s.fdc.drive.val false, .motorLight n.val true])
          else [.motorLight n.val true])) ∧
    t = { s with lat := t.lat, fdc := t.fdc, outputs := t.outputs }

/-- O56. Every Type I command acknowledges IntRq and cancels the disk events. Restore brings head
and track register to 0, direction out; Seek moves the head by data minus track and loads the
track register, the direction by their order; Step, Step-in and Step-out move the head one track
in the last direction, in or out, and with u the track register too (8 bits, wrapping); the head
stays within 0 to 254. The status is BUSY, HEADLOADED as h says, TRACK0 as the head says, and
with V the result of verify: on a drive that is not JV3 bit 4 when head and track differ or when
a JV1 disk is read at double density, on JV3 bit 4 when no sector is on the track and side, bit
3 when the first one has the CRC flag. A DiskDone of BUSY is scheduled 2,000 cycles on; nothing
else changes. Force interrupt too acknowledges IntRq, clears status, byte count and the disk
events and raises IntRq again when bit 3 is set; codes A, B, C, E and F of the high digit fault
with FdcUnsupportedCommand. (62_floppy_controller.md R592, 62_floppy_controller.md R593,
62_floppy_controller.md R594, 62_floppy_controller.md R595, 62_floppy_controller.md R597,
62_floppy_controller.md R602, 62_floppy_controller.md R603, 62_floppy_controller.md R604,
62_floppy_controller.md R612) -/
def Obligations.DiskCommands : Prop :=
  ∀ (s : State) (c : Byte),
    let cur := s.drv[s.fdc.drive]
    (c.toNat < 0x80 → ∃ t, s.fdcCommand c = .ok t ∧
      let head := (t.drv[s.fdc.drive]).phys
      t = { s with
        lat := s.lat.withNmi (s.lat.nmiLatch &&& 0x7F)
        fdc := { s.fdc with
          command := c, status := t.fdc.status, track := t.fdc.track, stepDir := t.fdc.stepDir }
        drv := s.drv.set s.fdc.drive { cur with phys := head }
        events := t.events
        seqNo := s.seqNo + 1 } ∧
      (∀ e, e ∈ t.events ↔ (e ∈ s.events ∧ e.kind &&& 0x07 = 0) ∨
        e = ⟨0x01, s.clock + 2000, s.seqNo, .diskDone 0x01⟩) ∧
      (c.toNat < 0x10 → head = 0 ∧ t.fdc.track = 0 ∧ t.fdc.stepDir = .outward) ∧
      (0x10 ≤ c.toNat → c.toNat < 0x20 →
        (head : Int) = max 0 (min 254 ((cur.phys : Int) + s.fdc.data.toNat - s.fdc.track.toNat)) ∧
        t.fdc.track = s.fdc.data ∧
        t.fdc.stepDir = if s.fdc.track.toNat < s.fdc.data.toNat then .inward
          else if s.fdc.data.toNat < s.fdc.track.toNat then .outward else s.fdc.stepDir) ∧
      (0x20 ≤ c.toNat →
        t.fdc.stepDir = (if c.toNat < 0x40 then s.fdc.stepDir
          else if c.toNat < 0x60 then .inward else .outward) ∧
        head = (match t.fdc.stepDir with
          | .inward => min 254 (cur.phys + 1)
          | .outward => min 254 (cur.phys - 1)) ∧
        t.fdc.track = (if c.getLsbD 4 = false then s.fdc.track else
          match t.fdc.stepDir with
          | .inward => s.fdc.track + 1
          | .outward => s.fdc.track - 1)) ∧
      ∃ verify : Byte,
        t.fdc.status = (0x01 ||| (if c.getLsbD 3 then 0x20 else 0x00) |||
          (if head = 0 then 0x04 else 0x00) ||| verify) ∧
        (c.getLsbD 2 = false → verify = 0x00) ∧
        (c.getLsbD 2 = true → cur.kind ≠ .jv3 →
          verify = if t.fdc.track.toNat ≠ head ∨ (cur.kind = .jv1 ∧ s.fdc.density = true) then 0x10
            else 0x00) ∧
        (c.getLsbD 2 = true → cur.kind = .jv3 →
          (∀ i e, cur.jv3.Finds head s.fdc.side (fun _ => True) i e →
            verify = if e.flags.getLsbD 3 then 0x08 else 0x00) ∧
          ((∀ i e, ¬cur.jv3.Finds head s.fdc.side (fun _ => True) i e) → verify = 0x10))) ∧
    (0xD0 ≤ c.toNat → c.toNat < 0xE0 → ∃ t, s.fdcCommand c = .ok t ∧
      t = { s with
        fdc := { s.fdc with command := c, status := 0, byteCount := 0 }
        events := s.events.filter (fun e => e.kind &&& 0x07 == 0)
        lat := if c.getLsbD 3 then (s.lat.withNmi (s.lat.nmiLatch &&& 0x7F)).withNmi
            (s.lat.nmiLatch &&& 0x7F ||| 0x80)
          else s.lat.withNmi (s.lat.nmiLatch &&& 0x7F) }) ∧
    ((0xA0 ≤ c.toNat ∧ c.toNat < 0xD0) ∨ 0xE0 ≤ c.toNat →
      s.fdcCommand c = .error (.fatal (.fdcUnsupportedCommand c)
        { s with
          fdc := { s.fdc with command := c }
          lat := s.lat.withNmi (s.lat.nmiLatch &&& 0x7F)
          fault := some (.fdcUnsupportedCommand c) }))

/-- O57. On a JV1 drive a read sector command finds the sector exactly when the side is 0, side 1 is
not requested, the head is on the programmed track, the track is below 35 and the sector below
10: status BUSY, 256 bytes from 256 times (10 track + sector). On a JV3 drive it finds the first
descriptor of the sector number and density on the head's track and the side, no other side
being requested: status BUSY with the CRC flag and the deleted mark, size by the size code,
offset from the table. Found, a first DRQ is scheduled 64 cycles on; not found, as on an empty
drive, status is RecordNotFound and a DiskDone that clears nothing is scheduled 512 cycles on;
nothing else changes but IntRq, the command and the cancelled disk events. A load takes the used
slots of one or two blocks of 2,901 as descriptors with their offsets and a sentinel, sorts the
index by track, side and number, and tables the first entry of each track and side and the first
free one of each size code. (62_floppy_controller.md R598, 62_floppy_controller.md R610,
62_floppy_controller.md R611, 62_floppy_controller.md R612, 62_floppy_controller.md R620,
62_floppy_controller.md R621, 62_floppy_controller.md R622, 62_floppy_controller.md R623,
62_floppy_controller.md R624) -/
def Obligations.SectorRead : Prop :=
  (∀ (s : State) (c : Byte), 0x80 ≤ c.toNat → c.toNat < 0xA0 →
      let cur := s.drv[s.fdc.drive]
      ∃ t, s.fdcCommand c = .ok t ∧
        t = { s with
          lat := s.lat.withNmi (s.lat.nmiLatch &&& 0x7F), fdc := t.fdc, events := t.events
          seqNo := s.seqNo + 1 } ∧
        let found (status : Byte) (size offset : Nat) : Prop :=
          t.fdc = { s.fdc with
            command := c, status := status, byteCount := size, dataOffset := offset } ∧
          ∀ e, e ∈ t.events ↔ (e ∈ s.events ∧ e.kind &&& 0x07 = 0) ∨
            e = ⟨0x04, s.clock + 64, s.seqNo, .firstDrq⟩
        let missing : Prop :=
          t.fdc = { s.fdc with command := c, status := 0x10 } ∧
          ∀ e, e ∈ t.events ↔ (e ∈ s.events ∧ e.kind &&& 0x07 = 0) ∨
            e = ⟨0x01, s.clock + 512, s.seqNo, .diskDone 0x00⟩
        (cur.kind = .none → missing) ∧
        (cur.kind = .jv1 →
          if s.fdc.side = false ∧ ¬(c.getLsbD 1 = true ∧ c.getLsbD 3 = true) ∧
              cur.phys = s.fdc.track.toNat ∧ s.fdc.track.toNat < 35 ∧ s.fdc.sector.toNat < 10
            then found 0x01 256 (256 * (10 * s.fdc.track.toNat + s.fdc.sector.toNat))
            else missing) ∧
        (cur.kind = .jv3 →
          let allowed := (c.getLsbD 1 = true → c.getLsbD 3 = s.fdc.side) ∧ cur.phys < 255
          let wanted (e : SectorId) : Prop :=
            e.sector = s.fdc.sector ∧ e.flags.getLsbD 7 = s.fdc.density
          (∀ i e, allowed → cur.jv3.Finds cur.phys s.fdc.side wanted i e →
            found
              (0x01 ||| (if e.flags.getLsbD 3 then 0x08 else 0x00) |||
                (if e.flags.getLsbD 5 ∧ e.flags.getLsbD 6 ≠ e.flags.getLsbD 7 then 0x20 else 0x00))
              (if e.flags.getLsbD 1 then (if e.flags.getLsbD 0 then 512 else 1024)
                else (if e.flags.getLsbD 0 then 128 else 256))
              (cur.jv3.offset.getD i 0)) ∧
          (¬allowed ∨ (∀ i e, ¬cur.jv3.Finds cur.phys s.fdc.side wanted i e) → missing))) ∧
    ∀ img : List Byte,
      let byte (n : Nat) : Byte := img.getD n 0xFF
      let slots (base : Nat) : List SectorId :=
        ((List.range 2901).map fun k =>
            (⟨byte (base + 3 * k), byte (base + 3 * k + 1), byte (base + 3 * k + 2)⟩ : SectorId)).filter
          fun e => decide (e ≠ ⟨0xFF, 0xFF, 0xFF⟩)
      let size (e : SectorId) : Nat :=
        if e.track = 0xFF then
          (if e.flags.getLsbD 1 then (if e.flags.getLsbD 0 then 256 else 128)
            else (if e.flags.getLsbD 0 then 1024 else 512))
        else (if e.flags.getLsbD 1 then (if e.flags.getLsbD 0 then 512 else 1024)
          else (if e.flags.getLsbD 0 then 128 else 256))
      let first := slots 0
      let end1 := 8704 + (first.map size).sum
      let used := first ++ if img.length ≤ end1 then [] else slots end1
      let t := jv3Load img
      t.ids = used ++ [⟨0xFF, 0xFF, 0xFF⟩] ∧
      t.offset.length = used.length + 1 ∧
      (∀ i, i ≤ used.length → t.offset[i]? = some (8704 + ((used.take i).map size).sum +
        if end1 < img.length ∧ first.length ≤ i then 8704 else 0)) ∧
      t.sortedId.Perm (List.range (used.length + 1)) ∧
      t.sortedId.Pairwise (fun i j => ∀ x y, t.ids[i]? = some x → t.ids[j]? = some y → x.Sorts i y j) ∧
      (∀ p side, t.startOf p side = none ↔
        (255 ≤ p ∨ ∀ n i e, t.Entry n i e → ¬(e.track.toNat = p ∧ e.flags.getLsbD 4 = side))) ∧
      (∀ p side n, t.startOf p side = some n ↔ p < 255 ∧
        (∃ i e, t.Entry n i e ∧ e.track.toNat = p ∧ e.flags.getLsbD 4 = side) ∧
        ∀ m i e, t.Entry m i e → e.track.toNat = p → e.flags.getLsbD 4 = side → n ≤ m) ∧
      ∀ code n, t.freeHead[code]? = some (some n) ↔ code < 4 ∧
        (∃ i e, t.Entry n i e ∧ i < used.length ∧ e.track = 0xFF ∧ e.flags.toNat % 4 = code) ∧
        ∀ m i e, t.Entry m i e → i < used.length → e.track = 0xFF → e.flags.toNat % 4 = code → n ≤ m

/-- O58. With a Type II command, DRQ and bytes left, a data read returns the image byte at the
offset (E5 past the end), moves the offset on and the count down; at the last byte DRQ clears,
the LostData watchdog is cancelled and a DiskDone of BUSY is scheduled 64 cycles on. Otherwise
it returns the data register and changes nothing. (R606) -/
def Obligations.DataRead : Prop :=
  ∀ s : State,
    let ready := commandType s.fdc.command = .typeII ∧ s.fdc.status.getLsbD 1 = true ∧
      0 < s.fdc.byteCount
    let img := (s.drv[s.fdc.drive]).image
    let v := if h : s.fdc.dataOffset < img.length then img[s.fdc.dataOffset] else 0xE5
    (¬ready → s.dataRead = s.fdc.data ∧ s.afterDataRead = s) ∧
    (ready → s.dataRead = v ∧
      (1 < s.fdc.byteCount → s.afterDataRead =
        { s with
          fdc := { s.fdc with
            data := v, dataOffset := s.fdc.dataOffset + 1, byteCount := s.fdc.byteCount - 1 } }) ∧
      (s.fdc.byteCount = 1 →
        s.afterDataRead.fdc = { s.fdc with
          data := v, dataOffset := s.fdc.dataOffset + 1, byteCount := 0
          status := s.fdc.status &&& 0xFD } ∧
        (∀ e, e ∈ s.afterDataRead.events ↔ (e ∈ s.events ∧ e.kind &&& 0x02 = 0) ∨
          e = ⟨0x01, s.clock + 64, s.seqNo, .diskDone 0x01⟩) ∧
        s.afterDataRead =
          { s with
            fdc := s.afterDataRead.fdc
            events := s.afterDataRead.events
            seqNo := s.seqNo + 1 }))

/-- O59. A sample is Positive above 5000, Negative below -5000 and Neutral otherwise; an edge sets
the flip-flop and the rise or fall latch bit exactly when the level changes to Positive or
Negative; the level becomes the sample's, the last non-neutral level too unless it is Neutral,
and nothing else changes. An update with the motor on in state Read has consumed every sample
due by now that the tape holds and no more: it is the edges of the samples from the old to the
new count, each once and in order, with the count moved on and nothing else changed, and the
level is that of the last one consumed; in any other state it changes nothing. (63_cassette.md
R661, 63_cassette.md R665, 63_cassette.md R666) -/
def Obligations.CassetteReplay : Prop :=
  (∀ w : Word,
      (classify w = .positive ↔ 5000 < w.toInt) ∧ (classify w = .negative ↔ w.toInt < -5000)) ∧
    (∀ (s : State) (v : Level),
      s.cassetteEdge v = { s with
        cas := { s.cas with
          last := v
          lastNonNeutral := if v = .neutral then s.cas.lastNonNeutral else v
          flipflop := s.cas.flipflop || decide (v ≠ s.cas.last ∧ v ≠ .neutral) }
        lat := { s.lat with
          irqLatch := s.lat.irqLatch |||
            (if v ≠ s.cas.last ∧ v = .positive then 0x01
              else if v ≠ s.cas.last ∧ v = .negative then 0x02 else 0x00) } }) ∧
    ∀ s : State,
      let now := s.cassetteUpdate.cas.samplesRead
      (¬(s.cas.motor = true ∧ s.cas.state = .read) → s.cassetteUpdate = s) ∧
      (s.cas.motor = true → s.cas.state = .read →
        now = max s.cas.samplesRead
          (min s.cas.tape.samples.length
            ((s.clock - s.cas.motorOnClock) * s.cas.tape.rate / 2027520)) ∧
        (let consumed := (s.cas.tape.samples.take now).drop s.cas.samplesRead
          let t := consumed.foldl (fun u w => u.cassetteEdge (classify w)) s
          s.cassetteUpdate = { t with cas := { t.cas with samplesRead := now } }) ∧
        (s.cas.samplesRead < now →
          some s.cassetteUpdate.cas.last = (s.cas.tape.samples[now - 1]?).map classify))

/-- O60. The next batch of the inbox is applied action by action, nothing after a shutdown or a
fault (that the actions come in batches is the model's choice, log entry 8). Mounting writes
kind and image of drive 0 or 1, by the length JV1 or JV3 with its tables, or faults with
BadDiskImage; unmounting empties both (log entry 16 for the tables); a cassette source is set;
press and release queue the activity of the key's cell by the key map; a triple that names a
cell without a legend and a character outside the map (below 21, 5B to 60, 7B and up) have none
and change nothing (log entry 19); a breakpoint is added; shutdown stops running for good; tron
changes nothing. The reset button puts every device register at its reset value with NMI latch
bit 5 set, empties the queue, emits the lights-off and expanded-off for what was on, and sets
running and skipBreak, and keeps CPU, memory, flags, clock, timer, sequence counter, fault,
drives, tape source and breakpoints. Boot sets running and skipBreak and changes nothing else.
(60_exceptions.md R542, 60_exceptions.md R543, 62_floppy_controller.md R625, 63_cassette.md
R660, 64_keyboard.md R691, 64_keyboard.md R695, 70_reset_and_hazards.md R711,
70_reset_and_hazards.md R712, 70_reset_and_hazards.md R713, 70_reset_and_hazards.md R715) -/
def Obligations.HostActions : Prop :=
  (∀ s : State,
      (s.inbox = [] → s.drainInbox = .ok s) ∧
      (∀ batch rest, s.inbox = batch :: rest →
        s.drainInbox = ({ s with inbox := rest } : State).hostActions batch) ∧
      s.hostActions [] = .ok s ∧
      (∀ x l, s.shutDown = true → s.hostActions (x :: l) = .ok s) ∧
      (∀ x l f, s.shutDown = false → s.hostAction x = .error f → s.hostActions (x :: l) = .error f) ∧
      (∀ x l t, s.shutDown = false → s.hostAction x = .ok t →
        s.hostActions (x :: l) = t.hostActions l)) ∧
    (∀ (s : State) (d : Fin 2) (n : Fin 4) (img : List Byte), n.val = d.val →
      (img.length = 89600 → s.hostAction (.mountDisk d img) =
        .ok { s with drv := s.drv.set n { s.drv[n] with kind := .jv1, image := img } }) ∧
      (img.length = 193024 ∨ img.length = 377344 → s.hostAction (.mountDisk d img) =
        .ok { s with
          drv := s.drv.set n { s.drv[n] with kind := .jv3, image := img, jv3 := jv3Load img } }) ∧
      (img.length ≠ 89600 → img.length ≠ 193024 → img.length ≠ 377344 →
        s.hostAction (.mountDisk d img) = .error (.fatal (.badDiskImage img.length)
          { s with fault := some (.badDiskImage img.length) })) ∧
      s.hostAction (.unmountDisk d) =
        .ok { s with drv := s.drv.set n { s.drv[n] with kind := .none, image := [] } }) ∧
    (∀ (s : State) (src : Option (List Byte)) (pc : Word),
      s.hostAction (.mountCassette src) = .ok { s with cas := { s.cas with source := src } } ∧
      (∃ l, s.hostAction (.addBreakpoint pc) = .ok { s with breakpoints := l } ∧
        ∀ a, a ∈ l ↔ a ∈ s.breakpoints ∨ a = pc) ∧
      s.hostAction .shutdown = .ok { s with running := false, shutDown := true } ∧
      s.hostAction .tron = .ok s ∧
      s.hostAction .boot = .ok { s with running := true, skipBreak := true } ∧
      s.hostAction .reset = .ok
        { s with
          lat := ⟨0x00, 0x00, 0x20, 0x20, false⟩
          modeImage := 0x00
          events := []
          outputs := s.outputs ++
            ((if s.fdc.motorOn then [.motorLight s.fdc.drive.val false] else []) ++
              (if s.cas.motor then [.motorLight (-1) false] else []) ++
              (if s.modeImage.getLsbD 2 then [.expanded false] else []))
          fdc := ⟨0, 0, 0, 0, 0, 0, 0, false, 0, false, false, 0, -1, .inward⟩
          cas := { s.cas with
            motor := false, state := .close, last := .neutral, lastNonNeutral := .neutral
            flipflop := false, motorOnClock := 0, samplesRead := 0 }
          kbd := ⟨Vector.replicate 8 0, .neutral, [], 0⟩
          running := true
          skipBreak := true }) ∧
    (∀ (s : State) (k : HostKey),
      (∀ row bit force, k.toCell = some (row, bit, force) →
        s.hostAction (.press k) = .ok
          { s with kbd := { s.kbd with queue := s.kbd.queue ++ [⟨row, bit, force, true⟩] } } ∧
        s.hostAction (.release k) = .ok
          { s with kbd := { s.kbd with queue := s.kbd.queue ++ [⟨row, bit, force, false⟩] } }) ∧
      (k.toCell = none → s.hostAction (.press k) = .ok s ∧ s.hostAction (.release k) = .ok s)) ∧
    (∀ (row bit : Fin 8) (force : ShiftForce), (HostKey.cell row bit force).toCell =
      if (row = 3 ∧ 3 ≤ bit) ∨ (row = 7 ∧ 2 ≤ bit) then none else some (row, bit, force)) ∧
    (let at' (n : Nat) (f : ShiftForce) : Option KeyCell :=
        some (Fin.ofNat 8 (n / 8), Fin.ofNat 8 (n % 8), f)
      let key (code : Nat) : Option KeyCell := (HostKey.ascii (BitVec.ofNat 8 code)).toCell
      (∀ n, n < 27 → key (0x40 + n) = at' n .neutral) ∧
      (∀ n, n < 26 → key (0x61 + n) = at' (n + 1) .forceDown) ∧
      (∀ n, n < 12 → key (0x30 + n) = at' (n + 32) .neutral) ∧
      (∀ n, n < 4 → key (0x2C + n) = at' (n + 44) .neutral) ∧
      (∀ n, n < 11 → key (0x21 + n) = at' (n + 33) .forceDown) ∧
      (∀ n, n < 4 → key (0x3C + n) = at' (n + 44) .forceDown) ∧
      (∀ n, n < 0x21 ∨ (0x5B ≤ n ∧ n ≤ 0x60) ∨ (0x7B ≤ n ∧ n ≤ 0xFF) → key n = none) ∧
      ([.enter, .clear, .break, .up, .down, .left, .right, .space, .lshift, .rshift] :
          List HostKey).map HostKey.toCell =
        (List.range 10).map (fun n => at' (n + 48) .neutral))
end

