-- ==== Sys2Proof/Laws/Memory.lean ====
section
/-! SUPPORT. The byte store: a read after a write, and the canonical form kept by every write. -/

namespace Sys2Proof.Machine

theorem Memory.get_erase (m : Memory) (a b : Nat) :
    (Memory.erase m a).get b = if b = a then unlistedByte else m.get b := by
  induction m with
  | nil => simp [Memory.erase, Memory.get]
  | cons c m ih =>
    obtain ⟨k, v⟩ := c
    by_cases hk : k = a
    · subst hk
      simp only [Memory.erase, Memory.get, ↓reduceIte, ih]
      by_cases hb : b = k
      · simp [hb]
      · simp [hb, Ne.symm hb]
    · simp only [Memory.erase, hk, ↓reduceIte, Memory.get, ih]
      by_cases hb : b = a
      · subst hb
        simp [hk]
      · simp [hb]

theorem Memory.get_insert (m : Memory) (a b : Nat) (v : Byte) (ha : m.get a = unlistedByte)
    (hm : ∀ c ∈ m, c.1 ≠ a) :
    (Memory.insert m a v).get b = if b = a then v else m.get b := by
  induction m with
  | nil =>
    by_cases hb : b = a
    · simp [Memory.insert, Memory.get, hb]
    · simp [Memory.insert, Memory.get, hb, Ne.symm hb]
  | cons c m ih =>
    obtain ⟨k, w⟩ := c
    have hk : k ≠ a := hm (k, w) (by simp)
    have hm' : ∀ c ∈ m, c.1 ≠ a := fun c hc => hm c (by simp [hc])
    simp only [Memory.get, hk, ↓reduceIte] at ha
    by_cases hlt : a < k
    · by_cases hb : b = a
      · simp [Memory.insert, hlt, Memory.get, hb]
      · simp [Memory.insert, hlt, Memory.get, hb, Ne.symm hb]
    · simp only [Memory.insert, hlt, ↓reduceIte, Memory.get, ih ha hm']
      by_cases hb : b = a
      · subst hb
        simp [hk]
      · simp [hb]

theorem Memory.mem_erase {m : Memory} {a : Nat} {c : Host.Cell} :
    c ∈ Memory.erase m a ↔ c ∈ m ∧ c.1 ≠ a := by
  induction m with
  | nil => simp [Memory.erase]
  | cons d m ih =>
    obtain ⟨k, v⟩ := d
    by_cases hk : k = a
    · simp only [Memory.erase, hk, ↓reduceIte, ih, List.mem_cons]
      constructor
      · exact fun h => ⟨.inr h.1, h.2⟩
      · rintro ⟨rfl | h, h2⟩
        · exact absurd rfl h2
        · exact ⟨h, h2⟩
    · simp only [Memory.erase, hk, ↓reduceIte, List.mem_cons, ih]
      constructor
      · rintro (rfl | h)
        · exact ⟨.inl rfl, hk⟩
        · exact ⟨.inr h.1, h.2⟩
      · rintro ⟨rfl | h, h2⟩
        · exact .inl rfl
        · exact .inr ⟨h, h2⟩

/-- A read after a write. -/
theorem Memory.get_set (m : Memory) (a b : Nat) (v : Byte) :
    (m.set a v).get b = if b = a then v else m.get b := by
  by_cases hv : v = unlistedByte
  · simp [Memory.set, hv, Memory.get_erase]
  · have h1 : (Memory.erase m a).get a = unlistedByte := by simp [Memory.get_erase]
    have h2 : ∀ c ∈ Memory.erase m a, c.1 ≠ a := fun c hc => (Memory.mem_erase.1 hc).2
    simp only [Memory.set, hv, ↓reduceIte, Memory.get_insert _ a b v h1 h2, Memory.get_erase]
    by_cases hb : b = a <;> simp [hb]

@[simp] theorem Memory.get_set_same (m : Memory) (a : Nat) (v : Byte) : (m.set a v).get a = v := by
  simp [Memory.get_set]

theorem Memory.get_set_other (m : Memory) {a b : Nat} (v : Byte) (h : b ≠ a) :
    (m.set a v).get b = m.get b := by
  simp [Memory.get_set, h]

/-! ## The canonical form -/

/-- `rising` as pairwise order. -/
theorem rising_iff (l : List Nat) : rising l = true ↔ l.Pairwise (· < ·) := by
  induction l with
  | nil => simp [rising]
  | cons a l ih =>
    cases l with
    | nil => simp [rising]
    | cons b l =>
      rw [rising, Bool.and_eq_true, ih]
      constructor
      · rintro ⟨h1, h2⟩
        have h1 := of_decide_eq_true h1
        refine List.pairwise_cons.2 ⟨fun c hc => ?_, h2⟩
        rcases List.mem_cons.1 hc with rfl | hc
        · exact h1
        · exact h1.trans ((List.pairwise_cons.1 h2).1 c hc)
      · intro h
        obtain ⟨h1, h2⟩ := List.pairwise_cons.1 h
        exact ⟨decide_eq_true (h1 b (by simp)), h2⟩

/-- The canonical form, spelled out. -/
theorem Memory.wf_iff (m : Memory) :
    m.wf = true ↔ m.Pairwise (fun x y => x.1 < y.1) ∧ ∀ c ∈ m, c.1 < 65536 ∧ c.2 ≠ unlistedByte := by
  simp [Memory.wf, rising_iff, List.pairwise_map, List.all_eq_true]

theorem Memory.erase_sublist (m : Memory) (a : Nat) : (Memory.erase m a).Sublist m := by
  induction m with
  | nil => simp [Memory.erase]
  | cons c m ih =>
    obtain ⟨k, v⟩ := c
    by_cases hk : k = a
    · simpa [Memory.erase, hk] using ih.cons (a, v)
    · simpa [Memory.erase, hk] using ih.cons_cons (k, v)

theorem Memory.mem_insert {m : Memory} {a : Nat} {v : Byte} {c : Host.Cell} :
    c ∈ Memory.insert m a v ↔ c = (a, v) ∨ c ∈ m := by
  induction m with
  | nil => simp [Memory.insert]
  | cons d m ih =>
    obtain ⟨k, w⟩ := d
    by_cases h : a < k
    · simp [Memory.insert, h]
    · simp only [Memory.insert, h, ↓reduceIte, List.mem_cons, ih]
      tauto

theorem Memory.insert_pairwise {m : Memory} {a : Nat} {v : Byte}
    (hm : m.Pairwise fun x y => x.1 < y.1) (ha : ∀ c ∈ m, c.1 ≠ a) :
    (Memory.insert m a v).Pairwise fun x y => x.1 < y.1 := by
  induction m with
  | nil => simp [Memory.insert]
  | cons d m ih =>
    obtain ⟨k, w⟩ := d
    obtain ⟨h1, h2⟩ := List.pairwise_cons.1 hm
    by_cases h : a < k
    · simp only [Memory.insert, h, ↓reduceIte]
      refine List.pairwise_cons.2 ⟨fun c hc => ?_, hm⟩
      rcases List.mem_cons.1 hc with rfl | hc
      · exact h
      · exact lt_trans h (h1 c hc)
    · simp only [Memory.insert, h, ↓reduceIte]
      refine List.pairwise_cons.2 ⟨fun c hc => ?_, ih h2 (fun c hc => ha c (by simp [hc]))⟩
      rcases Memory.mem_insert.1 hc with rfl | hc
      · have := ha (k, w) (by simp)
        simp only at this ⊢
        omega
      · exact h1 c hc

/-- A write keeps the canonical form. -/
theorem Memory.set_wf {m : Memory} {a : Nat} {v : Byte} (h : m.wf = true) (ha : a < 65536) :
    (m.set a v).wf = true := by
  rw [Memory.wf_iff] at h ⊢
  have he : (Memory.erase m a).Pairwise (fun x y => x.1 < y.1) :=
    h.1.sublist (Memory.erase_sublist m a)
  have hc : ∀ c ∈ Memory.erase m a, c.1 < 65536 ∧ c.2 ≠ unlistedByte :=
    fun c hc => h.2 c (Memory.mem_erase.1 hc).1
  by_cases hv : v = unlistedByte
  · simp only [Memory.set, hv, ↓reduceIte]
    exact ⟨he, hc⟩
  · simp only [Memory.set, hv, ↓reduceIte]
    refine ⟨Memory.insert_pairwise he fun c hc => (Memory.mem_erase.1 hc).2, fun c hc' => ?_⟩
    rcases Memory.mem_insert.1 hc' with rfl | hc'
    · exact ⟨ha, hv⟩
    · exact hc c hc'

theorem Memory.setBytes_wf {m : Memory} (bs : List Byte) (a : Word) (h : m.wf = true) :
    (m.setBytes a bs).wf = true := by
  induction bs generalizing m a with
  | nil => exact h
  | cons b bs ih => exact ih (a + 1) (Memory.set_wf h a.isLt)

/-- Equal reads are equal memories, for canonical memories. -/
theorem Memory.ext_get {m n : Memory} (hm : m.wf = true) (hn : n.wf = true)
    (h : ∀ a, m.get a = n.get a) : m = n := by
  induction m generalizing n with
  | nil =>
    cases n with
    | nil => rfl
    | cons c n =>
      have h1 := h c.1
      rw [Memory.wf_iff] at hn
      simp only [Memory.get, ↓reduceIte] at h1
      exact absurd h1.symm (hn.2 c (by simp)).2
  | cons c m ih =>
    have hm' := (Memory.wf_iff _).1 hm
    obtain ⟨p1, p2⟩ := List.pairwise_cons.1 hm'.1
    have low : ∀ (l : Memory) (a : Nat), (∀ d ∈ l, a < d.1) → l.get a = unlistedByte := by
      intro l a hl
      induction l with
      | nil => rfl
      | cons d l ihl =>
        have := hl d (by simp)
        simp only [Memory.get, Nat.ne_of_gt this, ↓reduceIte]
        exact ihl fun e he => hl e (by simp [he])
    cases n with
    | nil =>
      have h1 := h c.1
      simp only [Memory.get, ↓reduceIte] at h1
      exact absurd h1 (hm'.2 c (by simp)).2
    | cons d n =>
      have hn' := (Memory.wf_iff _).1 hn
      obtain ⟨q1, q2⟩ := List.pairwise_cons.1 hn'.1
      have hcd : c = d := by
        rcases Nat.lt_trichotomy c.1 d.1 with hlt | heq | hlt
        · have h1 := h c.1
          rw [low (d :: n) c.1 (fun e he => by
            rcases List.mem_cons.1 he with rfl | he
            · exact hlt
            · exact hlt.trans (q1 e he))] at h1
          simp only [Memory.get, ↓reduceIte] at h1
          exact absurd h1 (hm'.2 c (by simp)).2
        · have h1 := h c.1
          simp only [Memory.get, ↓reduceIte, heq] at h1
          exact Prod.ext heq h1
        · have h1 := h d.1
          rw [low (c :: m) d.1 (fun e he => by
            rcases List.mem_cons.1 he with rfl | he
            · exact hlt
            · exact hlt.trans (p1 e he))] at h1
          simp only [Memory.get, ↓reduceIte] at h1
          exact absurd h1.symm (hn'.2 d (by simp)).2
      subst hcd
      congr 1
      refine ih ((Memory.wf_iff m).2 ⟨p2, fun e he => hm'.2 e (by simp [he])⟩)
        ((Memory.wf_iff n).2 ⟨q2, fun e he => hn'.2 e (by simp [he])⟩) fun a => ?_
      by_cases ha : c.1 = a
      · subst ha
        rw [low m c.1 p1, low n c.1 q1]
      · have := h a
        simpa only [Memory.get, ha, ↓reduceIte] using this

/-! ## The "initialized" flags -/

theorem mem_markInited {l : List Nat} {a b : Nat} : b ∈ markInited l a ↔ b = a ∨ b ∈ l := by
  induction l with
  | nil => simp [markInited]
  | cons k l ih =>
    simp only [markInited]
    split
    · simp
    · split
      · rename_i h
        subst h
        simp
      · simp only [List.mem_cons, ih]
        tauto

/-- Setting a flag keeps the canonical form. -/
theorem markInited_wf {l : List Nat} {a : Nat} (h : initedWf l = true) (ha : a < 65536) :
    initedWf (markInited l a) = true := by
  simp only [initedWf, Bool.and_eq_true, rising_iff, List.all_eq_true, decide_eq_true_eq] at h ⊢
  refine ⟨?_, fun b hb => ?_⟩
  · obtain ⟨h1, -⟩ := h
    induction l with
    | nil => simp [markInited]
    | cons k l ih =>
      obtain ⟨p1, p2⟩ := List.pairwise_cons.1 h1
      simp only [markInited]
      split
      · rename_i hlt
        refine List.pairwise_cons.2 ⟨fun b hb => ?_, h1⟩
        rcases List.mem_cons.1 hb with rfl | hb
        · exact hlt
        · exact hlt.trans (p1 b hb)
      · split
        · exact h1
        · refine List.pairwise_cons.2 ⟨fun b hb => ?_, ih p2⟩
          rcases mem_markInited.1 hb with rfl | hb
          · omega
          · exact p1 b hb
  · rcases mem_markInited.1 hb with rfl | hb
    · exact ha
    · exact h.2 b hb

end Sys2Proof.Machine
end

