-- ==== Sys2Proof/Laws/State.lean ====
section
/-! SUPPORT. The fields of a state after each plain update, one lemma per field and update, all true
by unfolding. -/

namespace Sys2Proof.Machine

variable (s : State)

/-! ### setPC -/

@[simp] theorem State.setPC_cpu (w : Word) : (s.setPC w).cpu = { s.cpu with pc := w } := rfl
@[simp] theorem State.setPC_lat (w : Word) : (s.setPC w).lat = s.lat := rfl
@[simp] theorem State.setPC_modeImage (w : Word) : (s.setPC w).modeImage = s.modeImage := rfl
@[simp] theorem State.setPC_romSize (w : Word) : (s.setPC w).romSize = s.romSize := rfl
@[simp] theorem State.setPC_mem (w : Word) : (s.setPC w).mem = s.mem := rfl
@[simp] theorem State.setPC_inited (w : Word) : (s.setPC w).inited = s.inited := rfl
@[simp] theorem State.setPC_clock (w : Word) : (s.setPC w).clock = s.clock := rfl
@[simp] theorem State.setPC_nextTimer (w : Word) : (s.setPC w).nextTimer = s.nextTimer := rfl
@[simp] theorem State.setPC_fault (w : Word) : (s.setPC w).fault = s.fault := rfl
@[simp] theorem State.setPC_events (w : Word) : (s.setPC w).events = s.events := rfl
@[simp] theorem State.setPC_seqNo (w : Word) : (s.setPC w).seqNo = s.seqNo := rfl
@[simp] theorem State.setPC_outputs (w : Word) : (s.setPC w).outputs = s.outputs := rfl
@[simp] theorem State.setPC_fdc (w : Word) : (s.setPC w).fdc = s.fdc := rfl
@[simp] theorem State.setPC_drv (w : Word) : (s.setPC w).drv = s.drv := rfl
@[simp] theorem State.setPC_cas (w : Word) : (s.setPC w).cas = s.cas := rfl
@[simp] theorem State.setPC_kbd (w : Word) : (s.setPC w).kbd = s.kbd := rfl
@[simp] theorem State.setPC_running (w : Word) : (s.setPC w).running = s.running := rfl
@[simp] theorem State.setPC_breakpoints (w : Word) : (s.setPC w).breakpoints = s.breakpoints := rfl
@[simp] theorem State.setPC_skipBreak (w : Word) : (s.setPC w).skipBreak = s.skipBreak := rfl
@[simp] theorem State.setPC_shutDown (w : Word) : (s.setPC w).shutDown = s.shutDown := rfl
@[simp] theorem State.setPC_inbox (w : Word) : (s.setPC w).inbox = s.inbox := rfl
@[simp] theorem State.setPC_cfg (w : Word) : (s.setPC w).cfg = s.cfg := rfl
@[simp] theorem State.setPC_drawNo (w : Word) : (s.setPC w).drawNo = s.drawNo := rfl

/-! ### setSP -/

@[simp] theorem State.setSP_cpu (w : Word) : (s.setSP w).cpu = { s.cpu with sp := w } := rfl
@[simp] theorem State.setSP_lat (w : Word) : (s.setSP w).lat = s.lat := rfl
@[simp] theorem State.setSP_modeImage (w : Word) : (s.setSP w).modeImage = s.modeImage := rfl
@[simp] theorem State.setSP_romSize (w : Word) : (s.setSP w).romSize = s.romSize := rfl
@[simp] theorem State.setSP_mem (w : Word) : (s.setSP w).mem = s.mem := rfl
@[simp] theorem State.setSP_inited (w : Word) : (s.setSP w).inited = s.inited := rfl
@[simp] theorem State.setSP_clock (w : Word) : (s.setSP w).clock = s.clock := rfl
@[simp] theorem State.setSP_nextTimer (w : Word) : (s.setSP w).nextTimer = s.nextTimer := rfl
@[simp] theorem State.setSP_fault (w : Word) : (s.setSP w).fault = s.fault := rfl
@[simp] theorem State.setSP_events (w : Word) : (s.setSP w).events = s.events := rfl
@[simp] theorem State.setSP_seqNo (w : Word) : (s.setSP w).seqNo = s.seqNo := rfl
@[simp] theorem State.setSP_outputs (w : Word) : (s.setSP w).outputs = s.outputs := rfl
@[simp] theorem State.setSP_fdc (w : Word) : (s.setSP w).fdc = s.fdc := rfl
@[simp] theorem State.setSP_drv (w : Word) : (s.setSP w).drv = s.drv := rfl
@[simp] theorem State.setSP_cas (w : Word) : (s.setSP w).cas = s.cas := rfl
@[simp] theorem State.setSP_kbd (w : Word) : (s.setSP w).kbd = s.kbd := rfl
@[simp] theorem State.setSP_running (w : Word) : (s.setSP w).running = s.running := rfl
@[simp] theorem State.setSP_breakpoints (w : Word) : (s.setSP w).breakpoints = s.breakpoints := rfl
@[simp] theorem State.setSP_skipBreak (w : Word) : (s.setSP w).skipBreak = s.skipBreak := rfl
@[simp] theorem State.setSP_shutDown (w : Word) : (s.setSP w).shutDown = s.shutDown := rfl
@[simp] theorem State.setSP_inbox (w : Word) : (s.setSP w).inbox = s.inbox := rfl
@[simp] theorem State.setSP_cfg (w : Word) : (s.setSP w).cfg = s.cfg := rfl
@[simp] theorem State.setSP_drawNo (w : Word) : (s.setSP w).drawNo = s.drawNo := rfl

/-! ### setCpu -/

@[simp] theorem State.setCpu_cpu (c : Regs) : (s.setCpu c).cpu = c := rfl
@[simp] theorem State.setCpu_lat (c : Regs) : (s.setCpu c).lat = s.lat := rfl
@[simp] theorem State.setCpu_modeImage (c : Regs) : (s.setCpu c).modeImage = s.modeImage := rfl
@[simp] theorem State.setCpu_romSize (c : Regs) : (s.setCpu c).romSize = s.romSize := rfl
@[simp] theorem State.setCpu_mem (c : Regs) : (s.setCpu c).mem = s.mem := rfl
@[simp] theorem State.setCpu_inited (c : Regs) : (s.setCpu c).inited = s.inited := rfl
@[simp] theorem State.setCpu_clock (c : Regs) : (s.setCpu c).clock = s.clock := rfl
@[simp] theorem State.setCpu_nextTimer (c : Regs) : (s.setCpu c).nextTimer = s.nextTimer := rfl
@[simp] theorem State.setCpu_fault (c : Regs) : (s.setCpu c).fault = s.fault := rfl
@[simp] theorem State.setCpu_events (c : Regs) : (s.setCpu c).events = s.events := rfl
@[simp] theorem State.setCpu_seqNo (c : Regs) : (s.setCpu c).seqNo = s.seqNo := rfl
@[simp] theorem State.setCpu_outputs (c : Regs) : (s.setCpu c).outputs = s.outputs := rfl
@[simp] theorem State.setCpu_fdc (c : Regs) : (s.setCpu c).fdc = s.fdc := rfl
@[simp] theorem State.setCpu_drv (c : Regs) : (s.setCpu c).drv = s.drv := rfl
@[simp] theorem State.setCpu_cas (c : Regs) : (s.setCpu c).cas = s.cas := rfl
@[simp] theorem State.setCpu_kbd (c : Regs) : (s.setCpu c).kbd = s.kbd := rfl
@[simp] theorem State.setCpu_running (c : Regs) : (s.setCpu c).running = s.running := rfl
@[simp] theorem State.setCpu_breakpoints (c : Regs) :
    (s.setCpu c).breakpoints = s.breakpoints := rfl
@[simp] theorem State.setCpu_skipBreak (c : Regs) : (s.setCpu c).skipBreak = s.skipBreak := rfl
@[simp] theorem State.setCpu_shutDown (c : Regs) : (s.setCpu c).shutDown = s.shutDown := rfl
@[simp] theorem State.setCpu_inbox (c : Regs) : (s.setCpu c).inbox = s.inbox := rfl
@[simp] theorem State.setCpu_cfg (c : Regs) : (s.setCpu c).cfg = s.cfg := rfl
@[simp] theorem State.setCpu_drawNo (c : Regs) : (s.setCpu c).drawNo = s.drawNo := rfl

/-! ### setReg -/

@[simp] theorem State.setReg_cpu (r : Reg8) (v : Byte) : (s.setReg r v).cpu = s.cpu.set r v := rfl
@[simp] theorem State.setReg_lat (r : Reg8) (v : Byte) : (s.setReg r v).lat = s.lat := rfl
@[simp] theorem State.setReg_modeImage (r : Reg8) (v : Byte) :
    (s.setReg r v).modeImage = s.modeImage := rfl
@[simp] theorem State.setReg_romSize (r : Reg8) (v : Byte) :
    (s.setReg r v).romSize = s.romSize := rfl
@[simp] theorem State.setReg_mem (r : Reg8) (v : Byte) : (s.setReg r v).mem = s.mem := rfl
@[simp] theorem State.setReg_inited (r : Reg8) (v : Byte) : (s.setReg r v).inited = s.inited := rfl
@[simp] theorem State.setReg_clock (r : Reg8) (v : Byte) : (s.setReg r v).clock = s.clock := rfl
@[simp] theorem State.setReg_nextTimer (r : Reg8) (v : Byte) :
    (s.setReg r v).nextTimer = s.nextTimer := rfl
@[simp] theorem State.setReg_fault (r : Reg8) (v : Byte) : (s.setReg r v).fault = s.fault := rfl
@[simp] theorem State.setReg_events (r : Reg8) (v : Byte) : (s.setReg r v).events = s.events := rfl
@[simp] theorem State.setReg_seqNo (r : Reg8) (v : Byte) : (s.setReg r v).seqNo = s.seqNo := rfl
@[simp] theorem State.setReg_outputs (r : Reg8) (v : Byte) :
    (s.setReg r v).outputs = s.outputs := rfl
@[simp] theorem State.setReg_fdc (r : Reg8) (v : Byte) : (s.setReg r v).fdc = s.fdc := rfl
@[simp] theorem State.setReg_drv (r : Reg8) (v : Byte) : (s.setReg r v).drv = s.drv := rfl
@[simp] theorem State.setReg_cas (r : Reg8) (v : Byte) : (s.setReg r v).cas = s.cas := rfl
@[simp] theorem State.setReg_kbd (r : Reg8) (v : Byte) : (s.setReg r v).kbd = s.kbd := rfl
@[simp] theorem State.setReg_running (r : Reg8) (v : Byte) :
    (s.setReg r v).running = s.running := rfl
@[simp] theorem State.setReg_breakpoints (r : Reg8) (v : Byte) :
    (s.setReg r v).breakpoints = s.breakpoints := rfl
@[simp] theorem State.setReg_skipBreak (r : Reg8) (v : Byte) :
    (s.setReg r v).skipBreak = s.skipBreak := rfl
@[simp] theorem State.setReg_shutDown (r : Reg8) (v : Byte) :
    (s.setReg r v).shutDown = s.shutDown := rfl
@[simp] theorem State.setReg_inbox (r : Reg8) (v : Byte) : (s.setReg r v).inbox = s.inbox := rfl
@[simp] theorem State.setReg_cfg (r : Reg8) (v : Byte) : (s.setReg r v).cfg = s.cfg := rfl
@[simp] theorem State.setReg_drawNo (r : Reg8) (v : Byte) : (s.setReg r v).drawNo = s.drawNo := rfl

/-! ### setIdx -/

@[simp] theorem State.setIdx_cpu (x : Idx) (w : Word) : (s.setIdx x w).cpu = s.cpu.setIdx x w := rfl
@[simp] theorem State.setIdx_lat (x : Idx) (w : Word) : (s.setIdx x w).lat = s.lat := rfl
@[simp] theorem State.setIdx_modeImage (x : Idx) (w : Word) :
    (s.setIdx x w).modeImage = s.modeImage := rfl
@[simp] theorem State.setIdx_romSize (x : Idx) (w : Word) :
    (s.setIdx x w).romSize = s.romSize := rfl
@[simp] theorem State.setIdx_mem (x : Idx) (w : Word) : (s.setIdx x w).mem = s.mem := rfl
@[simp] theorem State.setIdx_inited (x : Idx) (w : Word) : (s.setIdx x w).inited = s.inited := rfl
@[simp] theorem State.setIdx_clock (x : Idx) (w : Word) : (s.setIdx x w).clock = s.clock := rfl
@[simp] theorem State.setIdx_nextTimer (x : Idx) (w : Word) :
    (s.setIdx x w).nextTimer = s.nextTimer := rfl
@[simp] theorem State.setIdx_fault (x : Idx) (w : Word) : (s.setIdx x w).fault = s.fault := rfl
@[simp] theorem State.setIdx_events (x : Idx) (w : Word) : (s.setIdx x w).events = s.events := rfl
@[simp] theorem State.setIdx_seqNo (x : Idx) (w : Word) : (s.setIdx x w).seqNo = s.seqNo := rfl
@[simp] theorem State.setIdx_outputs (x : Idx) (w : Word) :
    (s.setIdx x w).outputs = s.outputs := rfl
@[simp] theorem State.setIdx_fdc (x : Idx) (w : Word) : (s.setIdx x w).fdc = s.fdc := rfl
@[simp] theorem State.setIdx_drv (x : Idx) (w : Word) : (s.setIdx x w).drv = s.drv := rfl
@[simp] theorem State.setIdx_cas (x : Idx) (w : Word) : (s.setIdx x w).cas = s.cas := rfl
@[simp] theorem State.setIdx_kbd (x : Idx) (w : Word) : (s.setIdx x w).kbd = s.kbd := rfl
@[simp] theorem State.setIdx_running (x : Idx) (w : Word) :
    (s.setIdx x w).running = s.running := rfl
@[simp] theorem State.setIdx_breakpoints (x : Idx) (w : Word) :
    (s.setIdx x w).breakpoints = s.breakpoints := rfl
@[simp] theorem State.setIdx_skipBreak (x : Idx) (w : Word) :
    (s.setIdx x w).skipBreak = s.skipBreak := rfl
@[simp] theorem State.setIdx_shutDown (x : Idx) (w : Word) :
    (s.setIdx x w).shutDown = s.shutDown := rfl
@[simp] theorem State.setIdx_inbox (x : Idx) (w : Word) : (s.setIdx x w).inbox = s.inbox := rfl
@[simp] theorem State.setIdx_cfg (x : Idx) (w : Word) : (s.setIdx x w).cfg = s.cfg := rfl
@[simp] theorem State.setIdx_drawNo (x : Idx) (w : Word) : (s.setIdx x w).drawNo = s.drawNo := rfl

/-! ### setHalf -/

@[simp] theorem State.setHalf_cpu (x : Idx) (h : Half) (v : Byte) :
    (s.setHalf x h v).cpu = s.cpu.setHalf x h v := rfl
@[simp] theorem State.setHalf_lat (x : Idx) (h : Half) (v : Byte) :
    (s.setHalf x h v).lat = s.lat := rfl
@[simp] theorem State.setHalf_modeImage (x : Idx) (h : Half) (v : Byte) :
    (s.setHalf x h v).modeImage = s.modeImage := rfl
@[simp] theorem State.setHalf_romSize (x : Idx) (h : Half) (v : Byte) :
    (s.setHalf x h v).romSize = s.romSize := rfl
@[simp] theorem State.setHalf_mem (x : Idx) (h : Half) (v : Byte) :
    (s.setHalf x h v).mem = s.mem := rfl
@[simp] theorem State.setHalf_inited (x : Idx) (h : Half) (v : Byte) :
    (s.setHalf x h v).inited = s.inited := rfl
@[simp] theorem State.setHalf_clock (x : Idx) (h : Half) (v : Byte) :
    (s.setHalf x h v).clock = s.clock := rfl
@[simp] theorem State.setHalf_nextTimer (x : Idx) (h : Half) (v : Byte) :
    (s.setHalf x h v).nextTimer = s.nextTimer := rfl
@[simp] theorem State.setHalf_fault (x : Idx) (h : Half) (v : Byte) :
    (s.setHalf x h v).fault = s.fault := rfl
@[simp] theorem State.setHalf_events (x : Idx) (h : Half) (v : Byte) :
    (s.setHalf x h v).events = s.events := rfl
@[simp] theorem State.setHalf_seqNo (x : Idx) (h : Half) (v : Byte) :
    (s.setHalf x h v).seqNo = s.seqNo := rfl
@[simp] theorem State.setHalf_outputs (x : Idx) (h : Half) (v : Byte) :
    (s.setHalf x h v).outputs = s.outputs := rfl
@[simp] theorem State.setHalf_fdc (x : Idx) (h : Half) (v : Byte) :
    (s.setHalf x h v).fdc = s.fdc := rfl
@[simp] theorem State.setHalf_drv (x : Idx) (h : Half) (v : Byte) :
    (s.setHalf x h v).drv = s.drv := rfl
@[simp] theorem State.setHalf_cas (x : Idx) (h : Half) (v : Byte) :
    (s.setHalf x h v).cas = s.cas := rfl
@[simp] theorem State.setHalf_kbd (x : Idx) (h : Half) (v : Byte) :
    (s.setHalf x h v).kbd = s.kbd := rfl
@[simp] theorem State.setHalf_running (x : Idx) (h : Half) (v : Byte) :
    (s.setHalf x h v).running = s.running := rfl
@[simp] theorem State.setHalf_breakpoints (x : Idx) (h : Half) (v : Byte) :
    (s.setHalf x h v).breakpoints = s.breakpoints := rfl
@[simp] theorem State.setHalf_skipBreak (x : Idx) (h : Half) (v : Byte) :
    (s.setHalf x h v).skipBreak = s.skipBreak := rfl
@[simp] theorem State.setHalf_shutDown (x : Idx) (h : Half) (v : Byte) :
    (s.setHalf x h v).shutDown = s.shutDown := rfl
@[simp] theorem State.setHalf_inbox (x : Idx) (h : Half) (v : Byte) :
    (s.setHalf x h v).inbox = s.inbox := rfl
@[simp] theorem State.setHalf_cfg (x : Idx) (h : Half) (v : Byte) :
    (s.setHalf x h v).cfg = s.cfg := rfl
@[simp] theorem State.setHalf_drawNo (x : Idx) (h : Half) (v : Byte) :
    (s.setHalf x h v).drawNo = s.drawNo := rfl

/-! ### setFlags -/

@[simp] theorem State.setFlags_cpu (f : Flags) :
    (s.setFlags f).cpu = { s.cpu with f := f.toByte } := rfl
@[simp] theorem State.setFlags_lat (f : Flags) : (s.setFlags f).lat = s.lat := rfl
@[simp] theorem State.setFlags_modeImage (f : Flags) : (s.setFlags f).modeImage = s.modeImage := rfl
@[simp] theorem State.setFlags_romSize (f : Flags) : (s.setFlags f).romSize = s.romSize := rfl
@[simp] theorem State.setFlags_mem (f : Flags) : (s.setFlags f).mem = s.mem := rfl
@[simp] theorem State.setFlags_inited (f : Flags) : (s.setFlags f).inited = s.inited := rfl
@[simp] theorem State.setFlags_clock (f : Flags) : (s.setFlags f).clock = s.clock := rfl
@[simp] theorem State.setFlags_nextTimer (f : Flags) : (s.setFlags f).nextTimer = s.nextTimer := rfl
@[simp] theorem State.setFlags_fault (f : Flags) : (s.setFlags f).fault = s.fault := rfl
@[simp] theorem State.setFlags_events (f : Flags) : (s.setFlags f).events = s.events := rfl
@[simp] theorem State.setFlags_seqNo (f : Flags) : (s.setFlags f).seqNo = s.seqNo := rfl
@[simp] theorem State.setFlags_outputs (f : Flags) : (s.setFlags f).outputs = s.outputs := rfl
@[simp] theorem State.setFlags_fdc (f : Flags) : (s.setFlags f).fdc = s.fdc := rfl
@[simp] theorem State.setFlags_drv (f : Flags) : (s.setFlags f).drv = s.drv := rfl
@[simp] theorem State.setFlags_cas (f : Flags) : (s.setFlags f).cas = s.cas := rfl
@[simp] theorem State.setFlags_kbd (f : Flags) : (s.setFlags f).kbd = s.kbd := rfl
@[simp] theorem State.setFlags_running (f : Flags) : (s.setFlags f).running = s.running := rfl
@[simp] theorem State.setFlags_breakpoints (f : Flags) :
    (s.setFlags f).breakpoints = s.breakpoints := rfl
@[simp] theorem State.setFlags_skipBreak (f : Flags) : (s.setFlags f).skipBreak = s.skipBreak := rfl
@[simp] theorem State.setFlags_shutDown (f : Flags) : (s.setFlags f).shutDown = s.shutDown := rfl
@[simp] theorem State.setFlags_inbox (f : Flags) : (s.setFlags f).inbox = s.inbox := rfl
@[simp] theorem State.setFlags_cfg (f : Flags) : (s.setFlags f).cfg = s.cfg := rfl
@[simp] theorem State.setFlags_drawNo (f : Flags) : (s.setFlags f).drawNo = s.drawNo := rfl

/-! ### setFlagsDraw -/

@[simp] theorem State.setFlagsDraw_cpu (f : Flags) (m : Byte) :
    (s.setFlagsDraw f m).cpu = { s.cpu with f := (f.toByte &&& ~~~m) ||| (Config.draw s.drawNo &&& m) } := rfl
@[simp] theorem State.setFlagsDraw_lat (f : Flags) (m : Byte) :
    (s.setFlagsDraw f m).lat = s.lat := rfl
@[simp] theorem State.setFlagsDraw_modeImage (f : Flags) (m : Byte) :
    (s.setFlagsDraw f m).modeImage = s.modeImage := rfl
@[simp] theorem State.setFlagsDraw_romSize (f : Flags) (m : Byte) :
    (s.setFlagsDraw f m).romSize = s.romSize := rfl
@[simp] theorem State.setFlagsDraw_mem (f : Flags) (m : Byte) :
    (s.setFlagsDraw f m).mem = s.mem := rfl
@[simp] theorem State.setFlagsDraw_inited (f : Flags) (m : Byte) :
    (s.setFlagsDraw f m).inited = s.inited := rfl
@[simp] theorem State.setFlagsDraw_clock (f : Flags) (m : Byte) :
    (s.setFlagsDraw f m).clock = s.clock := rfl
@[simp] theorem State.setFlagsDraw_nextTimer (f : Flags) (m : Byte) :
    (s.setFlagsDraw f m).nextTimer = s.nextTimer := rfl
@[simp] theorem State.setFlagsDraw_fault (f : Flags) (m : Byte) :
    (s.setFlagsDraw f m).fault = s.fault := rfl
@[simp] theorem State.setFlagsDraw_events (f : Flags) (m : Byte) :
    (s.setFlagsDraw f m).events = s.events := rfl
@[simp] theorem State.setFlagsDraw_seqNo (f : Flags) (m : Byte) :
    (s.setFlagsDraw f m).seqNo = s.seqNo := rfl
@[simp] theorem State.setFlagsDraw_outputs (f : Flags) (m : Byte) :
    (s.setFlagsDraw f m).outputs = s.outputs := rfl
@[simp] theorem State.setFlagsDraw_fdc (f : Flags) (m : Byte) :
    (s.setFlagsDraw f m).fdc = s.fdc := rfl
@[simp] theorem State.setFlagsDraw_drv (f : Flags) (m : Byte) :
    (s.setFlagsDraw f m).drv = s.drv := rfl
@[simp] theorem State.setFlagsDraw_cas (f : Flags) (m : Byte) :
    (s.setFlagsDraw f m).cas = s.cas := rfl
@[simp] theorem State.setFlagsDraw_kbd (f : Flags) (m : Byte) :
    (s.setFlagsDraw f m).kbd = s.kbd := rfl
@[simp] theorem State.setFlagsDraw_running (f : Flags) (m : Byte) :
    (s.setFlagsDraw f m).running = s.running := rfl
@[simp] theorem State.setFlagsDraw_breakpoints (f : Flags) (m : Byte) :
    (s.setFlagsDraw f m).breakpoints = s.breakpoints := rfl
@[simp] theorem State.setFlagsDraw_skipBreak (f : Flags) (m : Byte) :
    (s.setFlagsDraw f m).skipBreak = s.skipBreak := rfl
@[simp] theorem State.setFlagsDraw_shutDown (f : Flags) (m : Byte) :
    (s.setFlagsDraw f m).shutDown = s.shutDown := rfl
@[simp] theorem State.setFlagsDraw_inbox (f : Flags) (m : Byte) :
    (s.setFlagsDraw f m).inbox = s.inbox := rfl
@[simp] theorem State.setFlagsDraw_cfg (f : Flags) (m : Byte) :
    (s.setFlagsDraw f m).cfg = s.cfg := rfl
@[simp] theorem State.setFlagsDraw_drawNo (f : Flags) (m : Byte) :
    (s.setFlagsDraw f m).drawNo = s.drawNo + 1 := rfl

/-! ### setFlagsUndoc -/

@[simp] theorem State.setFlagsUndoc_lat (f : Flags) (m : Byte) :
    (s.setFlagsUndoc f m).lat = s.lat := rfl
@[simp] theorem State.setFlagsUndoc_modeImage (f : Flags) (m : Byte) :
    (s.setFlagsUndoc f m).modeImage = s.modeImage := rfl
@[simp] theorem State.setFlagsUndoc_romSize (f : Flags) (m : Byte) :
    (s.setFlagsUndoc f m).romSize = s.romSize := rfl
@[simp] theorem State.setFlagsUndoc_mem (f : Flags) (m : Byte) :
    (s.setFlagsUndoc f m).mem = s.mem := rfl
@[simp] theorem State.setFlagsUndoc_inited (f : Flags) (m : Byte) :
    (s.setFlagsUndoc f m).inited = s.inited := rfl
@[simp] theorem State.setFlagsUndoc_clock (f : Flags) (m : Byte) :
    (s.setFlagsUndoc f m).clock = s.clock := rfl
@[simp] theorem State.setFlagsUndoc_nextTimer (f : Flags) (m : Byte) :
    (s.setFlagsUndoc f m).nextTimer = s.nextTimer := rfl
@[simp] theorem State.setFlagsUndoc_fault (f : Flags) (m : Byte) :
    (s.setFlagsUndoc f m).fault = s.fault := rfl
@[simp] theorem State.setFlagsUndoc_events (f : Flags) (m : Byte) :
    (s.setFlagsUndoc f m).events = s.events := rfl
@[simp] theorem State.setFlagsUndoc_seqNo (f : Flags) (m : Byte) :
    (s.setFlagsUndoc f m).seqNo = s.seqNo := rfl
@[simp] theorem State.setFlagsUndoc_outputs (f : Flags) (m : Byte) :
    (s.setFlagsUndoc f m).outputs = s.outputs := rfl
@[simp] theorem State.setFlagsUndoc_fdc (f : Flags) (m : Byte) :
    (s.setFlagsUndoc f m).fdc = s.fdc := rfl
@[simp] theorem State.setFlagsUndoc_drv (f : Flags) (m : Byte) :
    (s.setFlagsUndoc f m).drv = s.drv := rfl
@[simp] theorem State.setFlagsUndoc_cas (f : Flags) (m : Byte) :
    (s.setFlagsUndoc f m).cas = s.cas := rfl
@[simp] theorem State.setFlagsUndoc_kbd (f : Flags) (m : Byte) :
    (s.setFlagsUndoc f m).kbd = s.kbd := rfl
@[simp] theorem State.setFlagsUndoc_running (f : Flags) (m : Byte) :
    (s.setFlagsUndoc f m).running = s.running := rfl
@[simp] theorem State.setFlagsUndoc_breakpoints (f : Flags) (m : Byte) :
    (s.setFlagsUndoc f m).breakpoints = s.breakpoints := rfl
@[simp] theorem State.setFlagsUndoc_skipBreak (f : Flags) (m : Byte) :
    (s.setFlagsUndoc f m).skipBreak = s.skipBreak := rfl
@[simp] theorem State.setFlagsUndoc_shutDown (f : Flags) (m : Byte) :
    (s.setFlagsUndoc f m).shutDown = s.shutDown := rfl
@[simp] theorem State.setFlagsUndoc_inbox (f : Flags) (m : Byte) :
    (s.setFlagsUndoc f m).inbox = s.inbox := rfl
@[simp] theorem State.setFlagsUndoc_cfg (f : Flags) (m : Byte) :
    (s.setFlagsUndoc f m).cfg = s.cfg := rfl
@[simp] theorem State.setFlagsUndoc_drawNo (f : Flags) (m : Byte) :
    (s.setFlagsUndoc f m).drawNo = s.drawNo + 1 := rfl

/-! ### tick -/

@[simp] theorem State.tick_cpu (n : Nat) : (s.tick n).cpu = s.cpu := rfl
@[simp] theorem State.tick_lat (n : Nat) : (s.tick n).lat = s.lat := rfl
@[simp] theorem State.tick_modeImage (n : Nat) : (s.tick n).modeImage = s.modeImage := rfl
@[simp] theorem State.tick_romSize (n : Nat) : (s.tick n).romSize = s.romSize := rfl
@[simp] theorem State.tick_mem (n : Nat) : (s.tick n).mem = s.mem := rfl
@[simp] theorem State.tick_inited (n : Nat) : (s.tick n).inited = s.inited := rfl
@[simp] theorem State.tick_clock (n : Nat) : (s.tick n).clock = s.clock + n := rfl
@[simp] theorem State.tick_nextTimer (n : Nat) : (s.tick n).nextTimer = s.nextTimer := rfl
@[simp] theorem State.tick_fault (n : Nat) : (s.tick n).fault = s.fault := rfl
@[simp] theorem State.tick_events (n : Nat) : (s.tick n).events = s.events := rfl
@[simp] theorem State.tick_seqNo (n : Nat) : (s.tick n).seqNo = s.seqNo := rfl
@[simp] theorem State.tick_outputs (n : Nat) : (s.tick n).outputs = s.outputs := rfl
@[simp] theorem State.tick_fdc (n : Nat) : (s.tick n).fdc = s.fdc := rfl
@[simp] theorem State.tick_drv (n : Nat) : (s.tick n).drv = s.drv := rfl
@[simp] theorem State.tick_cas (n : Nat) : (s.tick n).cas = s.cas := rfl
@[simp] theorem State.tick_kbd (n : Nat) : (s.tick n).kbd = s.kbd := rfl
@[simp] theorem State.tick_running (n : Nat) : (s.tick n).running = s.running := rfl
@[simp] theorem State.tick_breakpoints (n : Nat) : (s.tick n).breakpoints = s.breakpoints := rfl
@[simp] theorem State.tick_skipBreak (n : Nat) : (s.tick n).skipBreak = s.skipBreak := rfl
@[simp] theorem State.tick_shutDown (n : Nat) : (s.tick n).shutDown = s.shutDown := rfl
@[simp] theorem State.tick_inbox (n : Nat) : (s.tick n).inbox = s.inbox := rfl
@[simp] theorem State.tick_cfg (n : Nat) : (s.tick n).cfg = s.cfg := rfl
@[simp] theorem State.tick_drawNo (n : Nat) : (s.tick n).drawNo = s.drawNo := rfl

/-! ### emit -/

@[simp] theorem State.emit_cpu (o : Output) : (s.emit o).cpu = s.cpu := rfl
@[simp] theorem State.emit_lat (o : Output) : (s.emit o).lat = s.lat := rfl
@[simp] theorem State.emit_modeImage (o : Output) : (s.emit o).modeImage = s.modeImage := rfl
@[simp] theorem State.emit_romSize (o : Output) : (s.emit o).romSize = s.romSize := rfl
@[simp] theorem State.emit_mem (o : Output) : (s.emit o).mem = s.mem := rfl
@[simp] theorem State.emit_inited (o : Output) : (s.emit o).inited = s.inited := rfl
@[simp] theorem State.emit_clock (o : Output) : (s.emit o).clock = s.clock := rfl
@[simp] theorem State.emit_nextTimer (o : Output) : (s.emit o).nextTimer = s.nextTimer := rfl
@[simp] theorem State.emit_fault (o : Output) : (s.emit o).fault = s.fault := rfl
@[simp] theorem State.emit_events (o : Output) : (s.emit o).events = s.events := rfl
@[simp] theorem State.emit_seqNo (o : Output) : (s.emit o).seqNo = s.seqNo := rfl
@[simp] theorem State.emit_outputs (o : Output) : (s.emit o).outputs = s.outputs ++ [o] := rfl
@[simp] theorem State.emit_fdc (o : Output) : (s.emit o).fdc = s.fdc := rfl
@[simp] theorem State.emit_drv (o : Output) : (s.emit o).drv = s.drv := rfl
@[simp] theorem State.emit_cas (o : Output) : (s.emit o).cas = s.cas := rfl
@[simp] theorem State.emit_kbd (o : Output) : (s.emit o).kbd = s.kbd := rfl
@[simp] theorem State.emit_running (o : Output) : (s.emit o).running = s.running := rfl
@[simp] theorem State.emit_breakpoints (o : Output) : (s.emit o).breakpoints = s.breakpoints := rfl
@[simp] theorem State.emit_skipBreak (o : Output) : (s.emit o).skipBreak = s.skipBreak := rfl
@[simp] theorem State.emit_shutDown (o : Output) : (s.emit o).shutDown = s.shutDown := rfl
@[simp] theorem State.emit_inbox (o : Output) : (s.emit o).inbox = s.inbox := rfl
@[simp] theorem State.emit_cfg (o : Output) : (s.emit o).cfg = s.cfg := rfl
@[simp] theorem State.emit_drawNo (o : Output) : (s.emit o).drawNo = s.drawNo := rfl

/-! ### raiseIrq -/

@[simp] theorem State.raiseIrq_cpu (b : Byte) : (s.raiseIrq b).cpu = s.cpu := rfl
@[simp] theorem State.raiseIrq_lat (b : Byte) :
    (s.raiseIrq b).lat = { s.lat with irqLatch := s.lat.irqLatch ||| b } := rfl
@[simp] theorem State.raiseIrq_modeImage (b : Byte) : (s.raiseIrq b).modeImage = s.modeImage := rfl
@[simp] theorem State.raiseIrq_romSize (b : Byte) : (s.raiseIrq b).romSize = s.romSize := rfl
@[simp] theorem State.raiseIrq_mem (b : Byte) : (s.raiseIrq b).mem = s.mem := rfl
@[simp] theorem State.raiseIrq_inited (b : Byte) : (s.raiseIrq b).inited = s.inited := rfl
@[simp] theorem State.raiseIrq_clock (b : Byte) : (s.raiseIrq b).clock = s.clock := rfl
@[simp] theorem State.raiseIrq_nextTimer (b : Byte) : (s.raiseIrq b).nextTimer = s.nextTimer := rfl
@[simp] theorem State.raiseIrq_fault (b : Byte) : (s.raiseIrq b).fault = s.fault := rfl
@[simp] theorem State.raiseIrq_events (b : Byte) : (s.raiseIrq b).events = s.events := rfl
@[simp] theorem State.raiseIrq_seqNo (b : Byte) : (s.raiseIrq b).seqNo = s.seqNo := rfl
@[simp] theorem State.raiseIrq_outputs (b : Byte) : (s.raiseIrq b).outputs = s.outputs := rfl
@[simp] theorem State.raiseIrq_fdc (b : Byte) : (s.raiseIrq b).fdc = s.fdc := rfl
@[simp] theorem State.raiseIrq_drv (b : Byte) : (s.raiseIrq b).drv = s.drv := rfl
@[simp] theorem State.raiseIrq_cas (b : Byte) : (s.raiseIrq b).cas = s.cas := rfl
@[simp] theorem State.raiseIrq_kbd (b : Byte) : (s.raiseIrq b).kbd = s.kbd := rfl
@[simp] theorem State.raiseIrq_running (b : Byte) : (s.raiseIrq b).running = s.running := rfl
@[simp] theorem State.raiseIrq_breakpoints (b : Byte) :
    (s.raiseIrq b).breakpoints = s.breakpoints := rfl
@[simp] theorem State.raiseIrq_skipBreak (b : Byte) : (s.raiseIrq b).skipBreak = s.skipBreak := rfl
@[simp] theorem State.raiseIrq_shutDown (b : Byte) : (s.raiseIrq b).shutDown = s.shutDown := rfl
@[simp] theorem State.raiseIrq_inbox (b : Byte) : (s.raiseIrq b).inbox = s.inbox := rfl
@[simp] theorem State.raiseIrq_cfg (b : Byte) : (s.raiseIrq b).cfg = s.cfg := rfl
@[simp] theorem State.raiseIrq_drawNo (b : Byte) : (s.raiseIrq b).drawNo = s.drawNo := rfl

/-! ### clearIrq -/

@[simp] theorem State.clearIrq_cpu (b : Byte) : (s.clearIrq b).cpu = s.cpu := rfl
@[simp] theorem State.clearIrq_lat (b : Byte) :
    (s.clearIrq b).lat = { s.lat with irqLatch := s.lat.irqLatch &&& ~~~b } := rfl
@[simp] theorem State.clearIrq_modeImage (b : Byte) : (s.clearIrq b).modeImage = s.modeImage := rfl
@[simp] theorem State.clearIrq_romSize (b : Byte) : (s.clearIrq b).romSize = s.romSize := rfl
@[simp] theorem State.clearIrq_mem (b : Byte) : (s.clearIrq b).mem = s.mem := rfl
@[simp] theorem State.clearIrq_inited (b : Byte) : (s.clearIrq b).inited = s.inited := rfl
@[simp] theorem State.clearIrq_clock (b : Byte) : (s.clearIrq b).clock = s.clock := rfl
@[simp] theorem State.clearIrq_nextTimer (b : Byte) : (s.clearIrq b).nextTimer = s.nextTimer := rfl
@[simp] theorem State.clearIrq_fault (b : Byte) : (s.clearIrq b).fault = s.fault := rfl
@[simp] theorem State.clearIrq_events (b : Byte) : (s.clearIrq b).events = s.events := rfl
@[simp] theorem State.clearIrq_seqNo (b : Byte) : (s.clearIrq b).seqNo = s.seqNo := rfl
@[simp] theorem State.clearIrq_outputs (b : Byte) : (s.clearIrq b).outputs = s.outputs := rfl
@[simp] theorem State.clearIrq_fdc (b : Byte) : (s.clearIrq b).fdc = s.fdc := rfl
@[simp] theorem State.clearIrq_drv (b : Byte) : (s.clearIrq b).drv = s.drv := rfl
@[simp] theorem State.clearIrq_cas (b : Byte) : (s.clearIrq b).cas = s.cas := rfl
@[simp] theorem State.clearIrq_kbd (b : Byte) : (s.clearIrq b).kbd = s.kbd := rfl
@[simp] theorem State.clearIrq_running (b : Byte) : (s.clearIrq b).running = s.running := rfl
@[simp] theorem State.clearIrq_breakpoints (b : Byte) :
    (s.clearIrq b).breakpoints = s.breakpoints := rfl
@[simp] theorem State.clearIrq_skipBreak (b : Byte) : (s.clearIrq b).skipBreak = s.skipBreak := rfl
@[simp] theorem State.clearIrq_shutDown (b : Byte) : (s.clearIrq b).shutDown = s.shutDown := rfl
@[simp] theorem State.clearIrq_inbox (b : Byte) : (s.clearIrq b).inbox = s.inbox := rfl
@[simp] theorem State.clearIrq_cfg (b : Byte) : (s.clearIrq b).cfg = s.cfg := rfl
@[simp] theorem State.clearIrq_drawNo (b : Byte) : (s.clearIrq b).drawNo = s.drawNo := rfl

/-! ### raiseNmi -/

@[simp] theorem State.raiseNmi_cpu (b : Byte) : (s.raiseNmi b).cpu = s.cpu := rfl
@[simp] theorem State.raiseNmi_lat (b : Byte) :
    (s.raiseNmi b).lat = { s.lat with nmiLatch := s.lat.nmiLatch ||| b }.nmiUpdate := rfl
@[simp] theorem State.raiseNmi_modeImage (b : Byte) : (s.raiseNmi b).modeImage = s.modeImage := rfl
@[simp] theorem State.raiseNmi_romSize (b : Byte) : (s.raiseNmi b).romSize = s.romSize := rfl
@[simp] theorem State.raiseNmi_mem (b : Byte) : (s.raiseNmi b).mem = s.mem := rfl
@[simp] theorem State.raiseNmi_inited (b : Byte) : (s.raiseNmi b).inited = s.inited := rfl
@[simp] theorem State.raiseNmi_clock (b : Byte) : (s.raiseNmi b).clock = s.clock := rfl
@[simp] theorem State.raiseNmi_nextTimer (b : Byte) : (s.raiseNmi b).nextTimer = s.nextTimer := rfl
@[simp] theorem State.raiseNmi_fault (b : Byte) : (s.raiseNmi b).fault = s.fault := rfl
@[simp] theorem State.raiseNmi_events (b : Byte) : (s.raiseNmi b).events = s.events := rfl
@[simp] theorem State.raiseNmi_seqNo (b : Byte) : (s.raiseNmi b).seqNo = s.seqNo := rfl
@[simp] theorem State.raiseNmi_outputs (b : Byte) : (s.raiseNmi b).outputs = s.outputs := rfl
@[simp] theorem State.raiseNmi_fdc (b : Byte) : (s.raiseNmi b).fdc = s.fdc := rfl
@[simp] theorem State.raiseNmi_drv (b : Byte) : (s.raiseNmi b).drv = s.drv := rfl
@[simp] theorem State.raiseNmi_cas (b : Byte) : (s.raiseNmi b).cas = s.cas := rfl
@[simp] theorem State.raiseNmi_kbd (b : Byte) : (s.raiseNmi b).kbd = s.kbd := rfl
@[simp] theorem State.raiseNmi_running (b : Byte) : (s.raiseNmi b).running = s.running := rfl
@[simp] theorem State.raiseNmi_breakpoints (b : Byte) :
    (s.raiseNmi b).breakpoints = s.breakpoints := rfl
@[simp] theorem State.raiseNmi_skipBreak (b : Byte) : (s.raiseNmi b).skipBreak = s.skipBreak := rfl
@[simp] theorem State.raiseNmi_shutDown (b : Byte) : (s.raiseNmi b).shutDown = s.shutDown := rfl
@[simp] theorem State.raiseNmi_inbox (b : Byte) : (s.raiseNmi b).inbox = s.inbox := rfl
@[simp] theorem State.raiseNmi_cfg (b : Byte) : (s.raiseNmi b).cfg = s.cfg := rfl
@[simp] theorem State.raiseNmi_drawNo (b : Byte) : (s.raiseNmi b).drawNo = s.drawNo := rfl

/-! ### clearNmi -/

@[simp] theorem State.clearNmi_cpu (b : Byte) : (s.clearNmi b).cpu = s.cpu := rfl
@[simp] theorem State.clearNmi_lat (b : Byte) :
    (s.clearNmi b).lat = { s.lat with nmiLatch := s.lat.nmiLatch &&& ~~~b }.nmiUpdate := rfl
@[simp] theorem State.clearNmi_modeImage (b : Byte) : (s.clearNmi b).modeImage = s.modeImage := rfl
@[simp] theorem State.clearNmi_romSize (b : Byte) : (s.clearNmi b).romSize = s.romSize := rfl
@[simp] theorem State.clearNmi_mem (b : Byte) : (s.clearNmi b).mem = s.mem := rfl
@[simp] theorem State.clearNmi_inited (b : Byte) : (s.clearNmi b).inited = s.inited := rfl
@[simp] theorem State.clearNmi_clock (b : Byte) : (s.clearNmi b).clock = s.clock := rfl
@[simp] theorem State.clearNmi_nextTimer (b : Byte) : (s.clearNmi b).nextTimer = s.nextTimer := rfl
@[simp] theorem State.clearNmi_fault (b : Byte) : (s.clearNmi b).fault = s.fault := rfl
@[simp] theorem State.clearNmi_events (b : Byte) : (s.clearNmi b).events = s.events := rfl
@[simp] theorem State.clearNmi_seqNo (b : Byte) : (s.clearNmi b).seqNo = s.seqNo := rfl
@[simp] theorem State.clearNmi_outputs (b : Byte) : (s.clearNmi b).outputs = s.outputs := rfl
@[simp] theorem State.clearNmi_fdc (b : Byte) : (s.clearNmi b).fdc = s.fdc := rfl
@[simp] theorem State.clearNmi_drv (b : Byte) : (s.clearNmi b).drv = s.drv := rfl
@[simp] theorem State.clearNmi_cas (b : Byte) : (s.clearNmi b).cas = s.cas := rfl
@[simp] theorem State.clearNmi_kbd (b : Byte) : (s.clearNmi b).kbd = s.kbd := rfl
@[simp] theorem State.clearNmi_running (b : Byte) : (s.clearNmi b).running = s.running := rfl
@[simp] theorem State.clearNmi_breakpoints (b : Byte) :
    (s.clearNmi b).breakpoints = s.breakpoints := rfl
@[simp] theorem State.clearNmi_skipBreak (b : Byte) : (s.clearNmi b).skipBreak = s.skipBreak := rfl
@[simp] theorem State.clearNmi_shutDown (b : Byte) : (s.clearNmi b).shutDown = s.shutDown := rfl
@[simp] theorem State.clearNmi_inbox (b : Byte) : (s.clearNmi b).inbox = s.inbox := rfl
@[simp] theorem State.clearNmi_cfg (b : Byte) : (s.clearNmi b).cfg = s.cfg := rfl
@[simp] theorem State.clearNmi_drawNo (b : Byte) : (s.clearNmi b).drawNo = s.drawNo := rfl

/-! ### schedule -/

@[simp] theorem State.schedule_cpu (k : Byte) (d : Nat) (x : EventAction) :
    (s.schedule k d x).cpu = s.cpu := rfl
@[simp] theorem State.schedule_lat (k : Byte) (d : Nat) (x : EventAction) :
    (s.schedule k d x).lat = s.lat := rfl
@[simp] theorem State.schedule_modeImage (k : Byte) (d : Nat) (x : EventAction) :
    (s.schedule k d x).modeImage = s.modeImage := rfl
@[simp] theorem State.schedule_romSize (k : Byte) (d : Nat) (x : EventAction) :
    (s.schedule k d x).romSize = s.romSize := rfl
@[simp] theorem State.schedule_mem (k : Byte) (d : Nat) (x : EventAction) :
    (s.schedule k d x).mem = s.mem := rfl
@[simp] theorem State.schedule_inited (k : Byte) (d : Nat) (x : EventAction) :
    (s.schedule k d x).inited = s.inited := rfl
@[simp] theorem State.schedule_clock (k : Byte) (d : Nat) (x : EventAction) :
    (s.schedule k d x).clock = s.clock := rfl
@[simp] theorem State.schedule_nextTimer (k : Byte) (d : Nat) (x : EventAction) :
    (s.schedule k d x).nextTimer = s.nextTimer := rfl
@[simp] theorem State.schedule_fault (k : Byte) (d : Nat) (x : EventAction) :
    (s.schedule k d x).fault = s.fault := rfl
@[simp] theorem State.schedule_events (k : Byte) (d : Nat) (x : EventAction) :
    (s.schedule k d x).events = insertEvent ⟨k, s.clock + d, s.seqNo, x⟩ s.events := rfl
@[simp] theorem State.schedule_seqNo (k : Byte) (d : Nat) (x : EventAction) :
    (s.schedule k d x).seqNo = s.seqNo + 1 := rfl
@[simp] theorem State.schedule_outputs (k : Byte) (d : Nat) (x : EventAction) :
    (s.schedule k d x).outputs = s.outputs := rfl
@[simp] theorem State.schedule_fdc (k : Byte) (d : Nat) (x : EventAction) :
    (s.schedule k d x).fdc = s.fdc := rfl
@[simp] theorem State.schedule_drv (k : Byte) (d : Nat) (x : EventAction) :
    (s.schedule k d x).drv = s.drv := rfl
@[simp] theorem State.schedule_cas (k : Byte) (d : Nat) (x : EventAction) :
    (s.schedule k d x).cas = s.cas := rfl
@[simp] theorem State.schedule_kbd (k : Byte) (d : Nat) (x : EventAction) :
    (s.schedule k d x).kbd = s.kbd := rfl
@[simp] theorem State.schedule_running (k : Byte) (d : Nat) (x : EventAction) :
    (s.schedule k d x).running = s.running := rfl
@[simp] theorem State.schedule_breakpoints (k : Byte) (d : Nat) (x : EventAction) :
    (s.schedule k d x).breakpoints = s.breakpoints := rfl
@[simp] theorem State.schedule_skipBreak (k : Byte) (d : Nat) (x : EventAction) :
    (s.schedule k d x).skipBreak = s.skipBreak := rfl
@[simp] theorem State.schedule_shutDown (k : Byte) (d : Nat) (x : EventAction) :
    (s.schedule k d x).shutDown = s.shutDown := rfl
@[simp] theorem State.schedule_inbox (k : Byte) (d : Nat) (x : EventAction) :
    (s.schedule k d x).inbox = s.inbox := rfl
@[simp] theorem State.schedule_cfg (k : Byte) (d : Nat) (x : EventAction) :
    (s.schedule k d x).cfg = s.cfg := rfl
@[simp] theorem State.schedule_drawNo (k : Byte) (d : Nat) (x : EventAction) :
    (s.schedule k d x).drawNo = s.drawNo := rfl

/-! ### cancel -/

@[simp] theorem State.cancel_cpu (m : Byte) : (s.cancel m).cpu = s.cpu := rfl
@[simp] theorem State.cancel_lat (m : Byte) : (s.cancel m).lat = s.lat := rfl
@[simp] theorem State.cancel_modeImage (m : Byte) : (s.cancel m).modeImage = s.modeImage := rfl
@[simp] theorem State.cancel_romSize (m : Byte) : (s.cancel m).romSize = s.romSize := rfl
@[simp] theorem State.cancel_mem (m : Byte) : (s.cancel m).mem = s.mem := rfl
@[simp] theorem State.cancel_inited (m : Byte) : (s.cancel m).inited = s.inited := rfl
@[simp] theorem State.cancel_clock (m : Byte) : (s.cancel m).clock = s.clock := rfl
@[simp] theorem State.cancel_nextTimer (m : Byte) : (s.cancel m).nextTimer = s.nextTimer := rfl
@[simp] theorem State.cancel_fault (m : Byte) : (s.cancel m).fault = s.fault := rfl
@[simp] theorem State.cancel_events (m : Byte) :
    (s.cancel m).events = s.events.filter (fun e => e.kind &&& m == 0) := rfl
@[simp] theorem State.cancel_seqNo (m : Byte) : (s.cancel m).seqNo = s.seqNo := rfl
@[simp] theorem State.cancel_outputs (m : Byte) : (s.cancel m).outputs = s.outputs := rfl
@[simp] theorem State.cancel_fdc (m : Byte) : (s.cancel m).fdc = s.fdc := rfl
@[simp] theorem State.cancel_drv (m : Byte) : (s.cancel m).drv = s.drv := rfl
@[simp] theorem State.cancel_cas (m : Byte) : (s.cancel m).cas = s.cas := rfl
@[simp] theorem State.cancel_kbd (m : Byte) : (s.cancel m).kbd = s.kbd := rfl
@[simp] theorem State.cancel_running (m : Byte) : (s.cancel m).running = s.running := rfl
@[simp] theorem State.cancel_breakpoints (m : Byte) :
    (s.cancel m).breakpoints = s.breakpoints := rfl
@[simp] theorem State.cancel_skipBreak (m : Byte) : (s.cancel m).skipBreak = s.skipBreak := rfl
@[simp] theorem State.cancel_shutDown (m : Byte) : (s.cancel m).shutDown = s.shutDown := rfl
@[simp] theorem State.cancel_inbox (m : Byte) : (s.cancel m).inbox = s.inbox := rfl
@[simp] theorem State.cancel_cfg (m : Byte) : (s.cancel m).cfg = s.cfg := rfl
@[simp] theorem State.cancel_drawNo (m : Byte) : (s.cancel m).drawNo = s.drawNo := rfl

/-! ### setStatus -/

@[simp] theorem State.setStatus_cpu (v : Byte) : (s.setStatus v).cpu = s.cpu := rfl
@[simp] theorem State.setStatus_lat (v : Byte) : (s.setStatus v).lat = s.lat := rfl
@[simp] theorem State.setStatus_modeImage (v : Byte) :
    (s.setStatus v).modeImage = s.modeImage := rfl
@[simp] theorem State.setStatus_romSize (v : Byte) : (s.setStatus v).romSize = s.romSize := rfl
@[simp] theorem State.setStatus_mem (v : Byte) : (s.setStatus v).mem = s.mem := rfl
@[simp] theorem State.setStatus_inited (v : Byte) : (s.setStatus v).inited = s.inited := rfl
@[simp] theorem State.setStatus_clock (v : Byte) : (s.setStatus v).clock = s.clock := rfl
@[simp] theorem State.setStatus_nextTimer (v : Byte) :
    (s.setStatus v).nextTimer = s.nextTimer := rfl
@[simp] theorem State.setStatus_fault (v : Byte) : (s.setStatus v).fault = s.fault := rfl
@[simp] theorem State.setStatus_events (v : Byte) : (s.setStatus v).events = s.events := rfl
@[simp] theorem State.setStatus_seqNo (v : Byte) : (s.setStatus v).seqNo = s.seqNo := rfl
@[simp] theorem State.setStatus_outputs (v : Byte) : (s.setStatus v).outputs = s.outputs := rfl
@[simp] theorem State.setStatus_fdc (v : Byte) :
    (s.setStatus v).fdc = { s.fdc with status := v } := rfl
@[simp] theorem State.setStatus_drv (v : Byte) : (s.setStatus v).drv = s.drv := rfl
@[simp] theorem State.setStatus_cas (v : Byte) : (s.setStatus v).cas = s.cas := rfl
@[simp] theorem State.setStatus_kbd (v : Byte) : (s.setStatus v).kbd = s.kbd := rfl
@[simp] theorem State.setStatus_running (v : Byte) : (s.setStatus v).running = s.running := rfl
@[simp] theorem State.setStatus_breakpoints (v : Byte) :
    (s.setStatus v).breakpoints = s.breakpoints := rfl
@[simp] theorem State.setStatus_skipBreak (v : Byte) :
    (s.setStatus v).skipBreak = s.skipBreak := rfl
@[simp] theorem State.setStatus_shutDown (v : Byte) : (s.setStatus v).shutDown = s.shutDown := rfl
@[simp] theorem State.setStatus_inbox (v : Byte) : (s.setStatus v).inbox = s.inbox := rfl
@[simp] theorem State.setStatus_cfg (v : Byte) : (s.setStatus v).cfg = s.cfg := rfl
@[simp] theorem State.setStatus_drawNo (v : Byte) : (s.setStatus v).drawNo = s.drawNo := rfl

/-! ### orStatus -/

@[simp] theorem State.orStatus_cpu (v : Byte) : (s.orStatus v).cpu = s.cpu := rfl
@[simp] theorem State.orStatus_lat (v : Byte) : (s.orStatus v).lat = s.lat := rfl
@[simp] theorem State.orStatus_modeImage (v : Byte) : (s.orStatus v).modeImage = s.modeImage := rfl
@[simp] theorem State.orStatus_romSize (v : Byte) : (s.orStatus v).romSize = s.romSize := rfl
@[simp] theorem State.orStatus_mem (v : Byte) : (s.orStatus v).mem = s.mem := rfl
@[simp] theorem State.orStatus_inited (v : Byte) : (s.orStatus v).inited = s.inited := rfl
@[simp] theorem State.orStatus_clock (v : Byte) : (s.orStatus v).clock = s.clock := rfl
@[simp] theorem State.orStatus_nextTimer (v : Byte) : (s.orStatus v).nextTimer = s.nextTimer := rfl
@[simp] theorem State.orStatus_fault (v : Byte) : (s.orStatus v).fault = s.fault := rfl
@[simp] theorem State.orStatus_events (v : Byte) : (s.orStatus v).events = s.events := rfl
@[simp] theorem State.orStatus_seqNo (v : Byte) : (s.orStatus v).seqNo = s.seqNo := rfl
@[simp] theorem State.orStatus_outputs (v : Byte) : (s.orStatus v).outputs = s.outputs := rfl
@[simp] theorem State.orStatus_fdc (v : Byte) :
    (s.orStatus v).fdc = { s.fdc with status := s.fdc.status ||| v } := rfl
@[simp] theorem State.orStatus_drv (v : Byte) : (s.orStatus v).drv = s.drv := rfl
@[simp] theorem State.orStatus_cas (v : Byte) : (s.orStatus v).cas = s.cas := rfl
@[simp] theorem State.orStatus_kbd (v : Byte) : (s.orStatus v).kbd = s.kbd := rfl
@[simp] theorem State.orStatus_running (v : Byte) : (s.orStatus v).running = s.running := rfl
@[simp] theorem State.orStatus_breakpoints (v : Byte) :
    (s.orStatus v).breakpoints = s.breakpoints := rfl
@[simp] theorem State.orStatus_skipBreak (v : Byte) : (s.orStatus v).skipBreak = s.skipBreak := rfl
@[simp] theorem State.orStatus_shutDown (v : Byte) : (s.orStatus v).shutDown = s.shutDown := rfl
@[simp] theorem State.orStatus_inbox (v : Byte) : (s.orStatus v).inbox = s.inbox := rfl
@[simp] theorem State.orStatus_cfg (v : Byte) : (s.orStatus v).cfg = s.cfg := rfl
@[simp] theorem State.orStatus_drawNo (v : Byte) : (s.orStatus v).drawNo = s.drawNo := rfl

/-! ### setPhys -/

@[simp] theorem State.setPhys_cpu (p : Nat) : (s.setPhys p).cpu = s.cpu := rfl
@[simp] theorem State.setPhys_lat (p : Nat) : (s.setPhys p).lat = s.lat := rfl
@[simp] theorem State.setPhys_modeImage (p : Nat) : (s.setPhys p).modeImage = s.modeImage := rfl
@[simp] theorem State.setPhys_romSize (p : Nat) : (s.setPhys p).romSize = s.romSize := rfl
@[simp] theorem State.setPhys_mem (p : Nat) : (s.setPhys p).mem = s.mem := rfl
@[simp] theorem State.setPhys_inited (p : Nat) : (s.setPhys p).inited = s.inited := rfl
@[simp] theorem State.setPhys_clock (p : Nat) : (s.setPhys p).clock = s.clock := rfl
@[simp] theorem State.setPhys_nextTimer (p : Nat) : (s.setPhys p).nextTimer = s.nextTimer := rfl
@[simp] theorem State.setPhys_fault (p : Nat) : (s.setPhys p).fault = s.fault := rfl
@[simp] theorem State.setPhys_events (p : Nat) : (s.setPhys p).events = s.events := rfl
@[simp] theorem State.setPhys_seqNo (p : Nat) : (s.setPhys p).seqNo = s.seqNo := rfl
@[simp] theorem State.setPhys_outputs (p : Nat) : (s.setPhys p).outputs = s.outputs := rfl
@[simp] theorem State.setPhys_fdc (p : Nat) : (s.setPhys p).fdc = s.fdc := rfl
@[simp] theorem State.setPhys_drv (p : Nat) :
    (s.setPhys p).drv = s.drv.set s.fdc.drive { s.cur with phys := p } := rfl
@[simp] theorem State.setPhys_cas (p : Nat) : (s.setPhys p).cas = s.cas := rfl
@[simp] theorem State.setPhys_kbd (p : Nat) : (s.setPhys p).kbd = s.kbd := rfl
@[simp] theorem State.setPhys_running (p : Nat) : (s.setPhys p).running = s.running := rfl
@[simp] theorem State.setPhys_breakpoints (p : Nat) :
    (s.setPhys p).breakpoints = s.breakpoints := rfl
@[simp] theorem State.setPhys_skipBreak (p : Nat) : (s.setPhys p).skipBreak = s.skipBreak := rfl
@[simp] theorem State.setPhys_shutDown (p : Nat) : (s.setPhys p).shutDown = s.shutDown := rfl
@[simp] theorem State.setPhys_inbox (p : Nat) : (s.setPhys p).inbox = s.inbox := rfl
@[simp] theorem State.setPhys_cfg (p : Nat) : (s.setPhys p).cfg = s.cfg := rfl
@[simp] theorem State.setPhys_drawNo (p : Nat) : (s.setPhys p).drawNo = s.drawNo := rfl

/-! ### setStepDir -/

@[simp] theorem State.setStepDir_cpu (d : StepDir) : (s.setStepDir d).cpu = s.cpu := rfl
@[simp] theorem State.setStepDir_lat (d : StepDir) : (s.setStepDir d).lat = s.lat := rfl
@[simp] theorem State.setStepDir_modeImage (d : StepDir) :
    (s.setStepDir d).modeImage = s.modeImage := rfl
@[simp] theorem State.setStepDir_romSize (d : StepDir) : (s.setStepDir d).romSize = s.romSize := rfl
@[simp] theorem State.setStepDir_mem (d : StepDir) : (s.setStepDir d).mem = s.mem := rfl
@[simp] theorem State.setStepDir_inited (d : StepDir) : (s.setStepDir d).inited = s.inited := rfl
@[simp] theorem State.setStepDir_clock (d : StepDir) : (s.setStepDir d).clock = s.clock := rfl
@[simp] theorem State.setStepDir_nextTimer (d : StepDir) :
    (s.setStepDir d).nextTimer = s.nextTimer := rfl
@[simp] theorem State.setStepDir_fault (d : StepDir) : (s.setStepDir d).fault = s.fault := rfl
@[simp] theorem State.setStepDir_events (d : StepDir) : (s.setStepDir d).events = s.events := rfl
@[simp] theorem State.setStepDir_seqNo (d : StepDir) : (s.setStepDir d).seqNo = s.seqNo := rfl
@[simp] theorem State.setStepDir_outputs (d : StepDir) : (s.setStepDir d).outputs = s.outputs := rfl
@[simp] theorem State.setStepDir_fdc (d : StepDir) :
    (s.setStepDir d).fdc = { s.fdc with stepDir := d } := rfl
@[simp] theorem State.setStepDir_drv (d : StepDir) : (s.setStepDir d).drv = s.drv := rfl
@[simp] theorem State.setStepDir_cas (d : StepDir) : (s.setStepDir d).cas = s.cas := rfl
@[simp] theorem State.setStepDir_kbd (d : StepDir) : (s.setStepDir d).kbd = s.kbd := rfl
@[simp] theorem State.setStepDir_running (d : StepDir) : (s.setStepDir d).running = s.running := rfl
@[simp] theorem State.setStepDir_breakpoints (d : StepDir) :
    (s.setStepDir d).breakpoints = s.breakpoints := rfl
@[simp] theorem State.setStepDir_skipBreak (d : StepDir) :
    (s.setStepDir d).skipBreak = s.skipBreak := rfl
@[simp] theorem State.setStepDir_shutDown (d : StepDir) :
    (s.setStepDir d).shutDown = s.shutDown := rfl
@[simp] theorem State.setStepDir_inbox (d : StepDir) : (s.setStepDir d).inbox = s.inbox := rfl
@[simp] theorem State.setStepDir_cfg (d : StepDir) : (s.setStepDir d).cfg = s.cfg := rfl
@[simp] theorem State.setStepDir_drawNo (d : StepDir) : (s.setStepDir d).drawNo = s.drawNo := rfl

/-! ### store -/

@[simp] theorem State.store_cpu (a : Word) (v : Byte) : (s.store a v).cpu = s.cpu := rfl
@[simp] theorem State.store_lat (a : Word) (v : Byte) : (s.store a v).lat = s.lat := rfl
@[simp] theorem State.store_modeImage (a : Word) (v : Byte) :
    (s.store a v).modeImage = s.modeImage := rfl
@[simp] theorem State.store_romSize (a : Word) (v : Byte) : (s.store a v).romSize = s.romSize := rfl
@[simp] theorem State.store_mem (a : Word) (v : Byte) :
    (s.store a v).mem = s.mem.set a.toNat v := rfl
@[simp] theorem State.store_inited (a : Word) (v : Byte) :
    (s.store a v).inited = markInited s.inited a.toNat := rfl
@[simp] theorem State.store_clock (a : Word) (v : Byte) : (s.store a v).clock = s.clock := rfl
@[simp] theorem State.store_nextTimer (a : Word) (v : Byte) :
    (s.store a v).nextTimer = s.nextTimer := rfl
@[simp] theorem State.store_fault (a : Word) (v : Byte) : (s.store a v).fault = s.fault := rfl
@[simp] theorem State.store_events (a : Word) (v : Byte) : (s.store a v).events = s.events := rfl
@[simp] theorem State.store_seqNo (a : Word) (v : Byte) : (s.store a v).seqNo = s.seqNo := rfl
@[simp] theorem State.store_outputs (a : Word) (v : Byte) : (s.store a v).outputs = s.outputs := rfl
@[simp] theorem State.store_fdc (a : Word) (v : Byte) : (s.store a v).fdc = s.fdc := rfl
@[simp] theorem State.store_drv (a : Word) (v : Byte) : (s.store a v).drv = s.drv := rfl
@[simp] theorem State.store_cas (a : Word) (v : Byte) : (s.store a v).cas = s.cas := rfl
@[simp] theorem State.store_kbd (a : Word) (v : Byte) : (s.store a v).kbd = s.kbd := rfl
@[simp] theorem State.store_running (a : Word) (v : Byte) : (s.store a v).running = s.running := rfl
@[simp] theorem State.store_breakpoints (a : Word) (v : Byte) :
    (s.store a v).breakpoints = s.breakpoints := rfl
@[simp] theorem State.store_skipBreak (a : Word) (v : Byte) :
    (s.store a v).skipBreak = s.skipBreak := rfl
@[simp] theorem State.store_shutDown (a : Word) (v : Byte) :
    (s.store a v).shutDown = s.shutDown := rfl
@[simp] theorem State.store_inbox (a : Word) (v : Byte) : (s.store a v).inbox = s.inbox := rfl
@[simp] theorem State.store_cfg (a : Word) (v : Byte) : (s.store a v).cfg = s.cfg := rfl
@[simp] theorem State.store_drawNo (a : Word) (v : Byte) : (s.store a v).drawNo = s.drawNo := rfl

/-! ### setIM -/

@[simp] theorem State.setIM_cpu (m : IntMode) : (s.setIM m).cpu = { s.cpu with im := m } := rfl
@[simp] theorem State.setIM_lat (m : IntMode) : (s.setIM m).lat = s.lat := rfl
@[simp] theorem State.setIM_modeImage (m : IntMode) : (s.setIM m).modeImage = s.modeImage := rfl
@[simp] theorem State.setIM_romSize (m : IntMode) : (s.setIM m).romSize = s.romSize := rfl
@[simp] theorem State.setIM_mem (m : IntMode) : (s.setIM m).mem = s.mem := rfl
@[simp] theorem State.setIM_inited (m : IntMode) : (s.setIM m).inited = s.inited := rfl
@[simp] theorem State.setIM_clock (m : IntMode) : (s.setIM m).clock = s.clock := rfl
@[simp] theorem State.setIM_nextTimer (m : IntMode) : (s.setIM m).nextTimer = s.nextTimer := rfl
@[simp] theorem State.setIM_fault (m : IntMode) : (s.setIM m).fault = s.fault := rfl
@[simp] theorem State.setIM_events (m : IntMode) : (s.setIM m).events = s.events := rfl
@[simp] theorem State.setIM_seqNo (m : IntMode) : (s.setIM m).seqNo = s.seqNo := rfl
@[simp] theorem State.setIM_outputs (m : IntMode) : (s.setIM m).outputs = s.outputs := rfl
@[simp] theorem State.setIM_fdc (m : IntMode) : (s.setIM m).fdc = s.fdc := rfl
@[simp] theorem State.setIM_drv (m : IntMode) : (s.setIM m).drv = s.drv := rfl
@[simp] theorem State.setIM_cas (m : IntMode) : (s.setIM m).cas = s.cas := rfl
@[simp] theorem State.setIM_kbd (m : IntMode) : (s.setIM m).kbd = s.kbd := rfl
@[simp] theorem State.setIM_running (m : IntMode) : (s.setIM m).running = s.running := rfl
@[simp] theorem State.setIM_breakpoints (m : IntMode) :
    (s.setIM m).breakpoints = s.breakpoints := rfl
@[simp] theorem State.setIM_skipBreak (m : IntMode) : (s.setIM m).skipBreak = s.skipBreak := rfl
@[simp] theorem State.setIM_shutDown (m : IntMode) : (s.setIM m).shutDown = s.shutDown := rfl
@[simp] theorem State.setIM_inbox (m : IntMode) : (s.setIM m).inbox = s.inbox := rfl
@[simp] theorem State.setIM_cfg (m : IntMode) : (s.setIM m).cfg = s.cfg := rfl
@[simp] theorem State.setIM_drawNo (m : IntMode) : (s.setIM m).drawNo = s.drawNo := rfl

/-! ### resume -/

@[simp] theorem State.resume_cpu : (s.resume).cpu = s.cpu := rfl
@[simp] theorem State.resume_lat : (s.resume).lat = s.lat := rfl
@[simp] theorem State.resume_modeImage : (s.resume).modeImage = s.modeImage := rfl
@[simp] theorem State.resume_romSize : (s.resume).romSize = s.romSize := rfl
@[simp] theorem State.resume_mem : (s.resume).mem = s.mem := rfl
@[simp] theorem State.resume_inited : (s.resume).inited = s.inited := rfl
@[simp] theorem State.resume_clock : (s.resume).clock = s.clock := rfl
@[simp] theorem State.resume_nextTimer : (s.resume).nextTimer = s.nextTimer := rfl
@[simp] theorem State.resume_fault : (s.resume).fault = s.fault := rfl
@[simp] theorem State.resume_events : (s.resume).events = s.events := rfl
@[simp] theorem State.resume_seqNo : (s.resume).seqNo = s.seqNo := rfl
@[simp] theorem State.resume_outputs : (s.resume).outputs = s.outputs := rfl
@[simp] theorem State.resume_fdc : (s.resume).fdc = s.fdc := rfl
@[simp] theorem State.resume_drv : (s.resume).drv = s.drv := rfl
@[simp] theorem State.resume_cas : (s.resume).cas = s.cas := rfl
@[simp] theorem State.resume_kbd : (s.resume).kbd = s.kbd := rfl
@[simp] theorem State.resume_running : (s.resume).running = true := rfl
@[simp] theorem State.resume_breakpoints : (s.resume).breakpoints = s.breakpoints := rfl
@[simp] theorem State.resume_skipBreak : (s.resume).skipBreak = true := rfl
@[simp] theorem State.resume_shutDown : (s.resume).shutDown = s.shutDown := rfl
@[simp] theorem State.resume_inbox : (s.resume).inbox = s.inbox := rfl
@[simp] theorem State.resume_cfg : (s.resume).cfg = s.cfg := rfl
@[simp] theorem State.resume_drawNo : (s.resume).drawNo = s.drawNo := rfl

end Sys2Proof.Machine
end

