-- ==== Sys2Proof/Laws/Ops.lean ====
section
/-! SUPPORT. What the shared operations over memory, the keyboard, the stack and the interrupt entry
can do, said once. -/

namespace Sys2Proof.Machine

variable (s : State)

/-! ### The router depends on ROM_SIZE alone -/

theorem State.region_congr {s t : State} (h : s.romSize = t.romSize) (a : Word) :
    s.region a = t.region a := by
  simp [State.region, h]

theorem State.writable_congr {s t : State} (h : s.romSize = t.romSize) (a : Word) :
    s.writable a = t.writable a := by
  simp [State.writable, State.region_congr h]

/-! ### keyDequeue and afterRead -/

@[simp] theorem State.keyDequeue_cpu : (s.keyDequeue).cpu = s.cpu := by
  unfold State.keyDequeue; split <;> (try split) <;> rfl
@[simp] theorem State.keyDequeue_lat : (s.keyDequeue).lat = s.lat := by
  unfold State.keyDequeue; split <;> (try split) <;> rfl
@[simp] theorem State.keyDequeue_modeImage : (s.keyDequeue).modeImage = s.modeImage := by
  unfold State.keyDequeue; split <;> (try split) <;> rfl
@[simp] theorem State.keyDequeue_romSize : (s.keyDequeue).romSize = s.romSize := by
  unfold State.keyDequeue; split <;> (try split) <;> rfl
@[simp] theorem State.keyDequeue_mem : (s.keyDequeue).mem = s.mem := by
  unfold State.keyDequeue; split <;> (try split) <;> rfl
@[simp] theorem State.keyDequeue_inited : (s.keyDequeue).inited = s.inited := by
  unfold State.keyDequeue; split <;> (try split) <;> rfl
@[simp] theorem State.keyDequeue_clock : (s.keyDequeue).clock = s.clock := by
  unfold State.keyDequeue; split <;> (try split) <;> rfl
@[simp] theorem State.keyDequeue_nextTimer : (s.keyDequeue).nextTimer = s.nextTimer := by
  unfold State.keyDequeue; split <;> (try split) <;> rfl
@[simp] theorem State.keyDequeue_fault : (s.keyDequeue).fault = s.fault := by
  unfold State.keyDequeue; split <;> (try split) <;> rfl
@[simp] theorem State.keyDequeue_events : (s.keyDequeue).events = s.events := by
  unfold State.keyDequeue; split <;> (try split) <;> rfl
@[simp] theorem State.keyDequeue_seqNo : (s.keyDequeue).seqNo = s.seqNo := by
  unfold State.keyDequeue; split <;> (try split) <;> rfl
@[simp] theorem State.keyDequeue_outputs : (s.keyDequeue).outputs = s.outputs := by
  unfold State.keyDequeue; split <;> (try split) <;> rfl
@[simp] theorem State.keyDequeue_fdc : (s.keyDequeue).fdc = s.fdc := by
  unfold State.keyDequeue; split <;> (try split) <;> rfl
@[simp] theorem State.keyDequeue_drv : (s.keyDequeue).drv = s.drv := by
  unfold State.keyDequeue; split <;> (try split) <;> rfl
@[simp] theorem State.keyDequeue_cas : (s.keyDequeue).cas = s.cas := by
  unfold State.keyDequeue; split <;> (try split) <;> rfl
@[simp] theorem State.keyDequeue_running : (s.keyDequeue).running = s.running := by
  unfold State.keyDequeue; split <;> (try split) <;> rfl
@[simp] theorem State.keyDequeue_breakpoints : (s.keyDequeue).breakpoints = s.breakpoints := by
  unfold State.keyDequeue; split <;> (try split) <;> rfl
@[simp] theorem State.keyDequeue_skipBreak : (s.keyDequeue).skipBreak = s.skipBreak := by
  unfold State.keyDequeue; split <;> (try split) <;> rfl
@[simp] theorem State.keyDequeue_shutDown : (s.keyDequeue).shutDown = s.shutDown := by
  unfold State.keyDequeue; split <;> (try split) <;> rfl
@[simp] theorem State.keyDequeue_inbox : (s.keyDequeue).inbox = s.inbox := by
  unfold State.keyDequeue; split <;> (try split) <;> rfl
@[simp] theorem State.keyDequeue_cfg : (s.keyDequeue).cfg = s.cfg := by
  unfold State.keyDequeue; split <;> (try split) <;> rfl
@[simp] theorem State.keyDequeue_drawNo : (s.keyDequeue).drawNo = s.drawNo := by
  unfold State.keyDequeue; split <;> (try split) <;> rfl

@[simp] theorem State.afterRead_cpu (a : Word) : (s.afterRead a).cpu = s.cpu := by
  unfold State.afterRead; split <;> simp
@[simp] theorem State.afterRead_lat (a : Word) : (s.afterRead a).lat = s.lat := by
  unfold State.afterRead; split <;> simp
@[simp] theorem State.afterRead_modeImage (a : Word) : (s.afterRead a).modeImage = s.modeImage := by
  unfold State.afterRead; split <;> simp
@[simp] theorem State.afterRead_romSize (a : Word) : (s.afterRead a).romSize = s.romSize := by
  unfold State.afterRead; split <;> simp
@[simp] theorem State.afterRead_mem (a : Word) : (s.afterRead a).mem = s.mem := by
  unfold State.afterRead; split <;> simp
@[simp] theorem State.afterRead_inited (a : Word) : (s.afterRead a).inited = s.inited := by
  unfold State.afterRead; split <;> simp
@[simp] theorem State.afterRead_clock (a : Word) : (s.afterRead a).clock = s.clock := by
  unfold State.afterRead; split <;> simp
@[simp] theorem State.afterRead_nextTimer (a : Word) : (s.afterRead a).nextTimer = s.nextTimer := by
  unfold State.afterRead; split <;> simp
@[simp] theorem State.afterRead_fault (a : Word) : (s.afterRead a).fault = s.fault := by
  unfold State.afterRead; split <;> simp
@[simp] theorem State.afterRead_events (a : Word) : (s.afterRead a).events = s.events := by
  unfold State.afterRead; split <;> simp
@[simp] theorem State.afterRead_seqNo (a : Word) : (s.afterRead a).seqNo = s.seqNo := by
  unfold State.afterRead; split <;> simp
@[simp] theorem State.afterRead_outputs (a : Word) : (s.afterRead a).outputs = s.outputs := by
  unfold State.afterRead; split <;> simp
@[simp] theorem State.afterRead_fdc (a : Word) : (s.afterRead a).fdc = s.fdc := by
  unfold State.afterRead; split <;> simp
@[simp] theorem State.afterRead_drv (a : Word) : (s.afterRead a).drv = s.drv := by
  unfold State.afterRead; split <;> simp
@[simp] theorem State.afterRead_cas (a : Word) : (s.afterRead a).cas = s.cas := by
  unfold State.afterRead; split <;> simp
@[simp] theorem State.afterRead_running (a : Word) : (s.afterRead a).running = s.running := by
  unfold State.afterRead; split <;> simp
@[simp] theorem State.afterRead_breakpoints (a : Word) :
    (s.afterRead a).breakpoints = s.breakpoints := by
  unfold State.afterRead; split <;> simp
@[simp] theorem State.afterRead_skipBreak (a : Word) : (s.afterRead a).skipBreak = s.skipBreak := by
  unfold State.afterRead; split <;> simp
@[simp] theorem State.afterRead_shutDown (a : Word) : (s.afterRead a).shutDown = s.shutDown := by
  unfold State.afterRead; split <;> simp
@[simp] theorem State.afterRead_inbox (a : Word) : (s.afterRead a).inbox = s.inbox := by
  unfold State.afterRead; split <;> simp
@[simp] theorem State.afterRead_cfg (a : Word) : (s.afterRead a).cfg = s.cfg := by
  unfold State.afterRead; split <;> simp
@[simp] theorem State.afterRead_drawNo (a : Word) : (s.afterRead a).drawNo = s.drawNo := by
  unfold State.afterRead; split <;> simp

/-- A read has no side effect outside the keyboard region (R91). -/
theorem State.afterRead_plain {a : Word} (h : s.region a ≠ .keyboard) : s.afterRead a = s := by
  unfold State.afterRead
  split <;> first | rfl | contradiction

/-- A read changes the keyboard at most. -/
theorem State.afterRead_eq (a : Word) : s.afterRead a = { s with kbd := (s.afterRead a).kbd } := by
  unfold State.afterRead
  split
  · unfold State.keyDequeue
    split <;> (try split) <;> rfl
  all_goals rfl

/-- Outside the keyboard region a read is a function of memory and ROM_SIZE. -/
theorem State.readByte_congr {s t : State} {a : Word} (hr : s.romSize = t.romSize)
    (hm : s.mem.get a.toNat = t.mem.get a.toNat) (hk : s.region a ≠ .keyboard) :
    t.readByte a = s.readByte a := by
  unfold State.readByte
  rw [← State.region_congr hr a]
  split <;> simp_all

@[simp] theorem State.region_afterRead (a b : Word) : (s.afterRead a).region b = s.region b :=
  State.region_congr (by simp) b

/-! ### memWrite -/

@[simp] theorem State.memWrite_cpu (a : Word) (v : Byte) : (s.memWrite a v).cpu = s.cpu := by
  unfold State.memWrite; split <;> simp
@[simp] theorem State.memWrite_lat (a : Word) (v : Byte) : (s.memWrite a v).lat = s.lat := by
  unfold State.memWrite; split <;> simp
@[simp] theorem State.memWrite_modeImage (a : Word) (v : Byte) :
    (s.memWrite a v).modeImage = s.modeImage := by
  unfold State.memWrite; split <;> simp
@[simp] theorem State.memWrite_romSize (a : Word) (v : Byte) :
    (s.memWrite a v).romSize = s.romSize := by
  unfold State.memWrite; split <;> simp
@[simp] theorem State.memWrite_clock (a : Word) (v : Byte) : (s.memWrite a v).clock = s.clock := by
  unfold State.memWrite; split <;> simp
@[simp] theorem State.memWrite_nextTimer (a : Word) (v : Byte) :
    (s.memWrite a v).nextTimer = s.nextTimer := by
  unfold State.memWrite; split <;> simp
@[simp] theorem State.memWrite_fault (a : Word) (v : Byte) : (s.memWrite a v).fault = s.fault := by
  unfold State.memWrite; split <;> simp
@[simp] theorem State.memWrite_events (a : Word) (v : Byte) :
    (s.memWrite a v).events = s.events := by
  unfold State.memWrite; split <;> simp
@[simp] theorem State.memWrite_seqNo (a : Word) (v : Byte) : (s.memWrite a v).seqNo = s.seqNo := by
  unfold State.memWrite; split <;> simp
@[simp] theorem State.memWrite_fdc (a : Word) (v : Byte) : (s.memWrite a v).fdc = s.fdc := by
  unfold State.memWrite; split <;> simp
@[simp] theorem State.memWrite_drv (a : Word) (v : Byte) : (s.memWrite a v).drv = s.drv := by
  unfold State.memWrite; split <;> simp
@[simp] theorem State.memWrite_cas (a : Word) (v : Byte) : (s.memWrite a v).cas = s.cas := by
  unfold State.memWrite; split <;> simp
@[simp] theorem State.memWrite_kbd (a : Word) (v : Byte) : (s.memWrite a v).kbd = s.kbd := by
  unfold State.memWrite; split <;> simp
@[simp] theorem State.memWrite_running (a : Word) (v : Byte) :
    (s.memWrite a v).running = s.running := by
  unfold State.memWrite; split <;> simp
@[simp] theorem State.memWrite_breakpoints (a : Word) (v : Byte) :
    (s.memWrite a v).breakpoints = s.breakpoints := by
  unfold State.memWrite; split <;> simp
@[simp] theorem State.memWrite_skipBreak (a : Word) (v : Byte) :
    (s.memWrite a v).skipBreak = s.skipBreak := by
  unfold State.memWrite; split <;> simp
@[simp] theorem State.memWrite_shutDown (a : Word) (v : Byte) :
    (s.memWrite a v).shutDown = s.shutDown := by
  unfold State.memWrite; split <;> simp
@[simp] theorem State.memWrite_inbox (a : Word) (v : Byte) : (s.memWrite a v).inbox = s.inbox := by
  unfold State.memWrite; split <;> simp
@[simp] theorem State.memWrite_cfg (a : Word) (v : Byte) : (s.memWrite a v).cfg = s.cfg := by
  unfold State.memWrite; split <;> simp
@[simp] theorem State.memWrite_drawNo (a : Word) (v : Byte) :
    (s.memWrite a v).drawNo = s.drawNo := by
  unfold State.memWrite; split <;> simp

@[simp] theorem State.region_memWrite (a b : Word) (v : Byte) :
    (s.memWrite a v).region b = s.region b :=
  State.region_congr (by simp) b

@[simp] theorem State.writable_memWrite (a b : Word) (v : Byte) :
    (s.memWrite a v).writable b = s.writable b :=
  State.writable_congr (by simp) b

@[simp] theorem State.writable_setSP (w b : Word) : (s.setSP w).writable b = s.writable b :=
  State.writable_congr (by simp) b

@[simp] theorem State.writable_setCpu (c : Regs) (b : Word) : (s.setCpu c).writable b = s.writable b :=
  State.writable_congr (by simp) b

@[simp] theorem State.writable_setPC (w b : Word) : (s.setPC w).writable b = s.writable b :=
  State.writable_congr (by simp) b

@[simp] theorem State.writable_afterRead (a b : Word) :
    (s.afterRead a).writable b = s.writable b :=
  State.writable_congr (by simp) b

/-- A store outside RAM and screen changes nothing (R81). -/
theorem State.memWrite_dropped {a : Word} (v : Byte) (h : s.writable a = false) : s.memWrite a v = s := by
  unfold State.memWrite
  split <;> simp_all [State.writable]

theorem State.memWrite_mem {a : Word} (v : Byte) (h : s.writable a = true) :
    (s.memWrite a v).mem = s.mem.set a.toNat v := by
  unfold State.memWrite
  split <;> simp_all [State.writable]

/-- The cells after a store. -/
theorem State.memWrite_get (a : Word) (v : Byte) (n : Nat) :
    (s.memWrite a v).mem.get n =
      if s.writable a ∧ n = a.toNat then v else s.mem.get n := by
  cases h : s.writable a
  · simp [State.memWrite_dropped, h]
  · simp [State.memWrite_mem, h, Memory.get_set]

/-- A store changes no cell but its own. -/
theorem State.memWrite_get_other {a b : Word} (v : Byte) (h : b ≠ a) :
    (s.memWrite a v).mem.get b.toNat = s.mem.get b.toNat := by
  rw [State.memWrite_get, if_neg]
  rintro ⟨-, h2⟩
  exact h (BitVec.eq_of_toNat_eq h2)

/-- A store keeps the canonical form of memory. -/
theorem State.memWrite_wf {a : Word} (v : Byte) (h : s.mem.wf = true) :
    (s.memWrite a v).mem.wf = true := by
  cases hw : s.writable a
  · rwa [State.memWrite_dropped s v hw]
  · rw [State.memWrite_mem s v hw]
    exact Memory.set_wf h a.isLt

/-- A store keeps the canonical form of the flags. -/
theorem State.memWrite_initedWf {a : Word} (v : Byte) (h : initedWf s.inited = true) :
    initedWf (s.memWrite a v).inited = true := by
  unfold State.memWrite
  split <;> simp_all [markInited_wf, a.isLt]

/-- ROM is not writable (R82). -/
theorem State.not_writable_rom {a : Word} (h : a.toNat < s.romSize) : s.writable a = false := by
  simp [State.writable, State.region, h]

/-- A store leaves ROM alone (R82). -/
theorem State.memWrite_rom (a : Word) (v : Byte) {n : Nat} (h : n < s.romSize) :
    (s.memWrite a v).mem.get n = s.mem.get n := by
  rw [State.memWrite_get, if_neg]
  rintro ⟨h1, h2⟩
  simp [State.not_writable_rom s (h2 ▸ h)] at h1

/-! ### Words and the stack -/

@[simp] theorem State.afterReadWord_cpu (a : Word) : (s.afterReadWord a).cpu = s.cpu := by
  simp [State.afterReadWord]
@[simp] theorem State.afterReadWord_lat (a : Word) : (s.afterReadWord a).lat = s.lat := by
  simp [State.afterReadWord]
@[simp] theorem State.afterReadWord_modeImage (a : Word) :
    (s.afterReadWord a).modeImage = s.modeImage := by
  simp [State.afterReadWord]
@[simp] theorem State.afterReadWord_romSize (a : Word) :
    (s.afterReadWord a).romSize = s.romSize := by
  simp [State.afterReadWord]
@[simp] theorem State.afterReadWord_mem (a : Word) : (s.afterReadWord a).mem = s.mem := by
  simp [State.afterReadWord]
@[simp] theorem State.afterReadWord_inited (a : Word) : (s.afterReadWord a).inited = s.inited := by
  simp [State.afterReadWord]
@[simp] theorem State.afterReadWord_clock (a : Word) : (s.afterReadWord a).clock = s.clock := by
  simp [State.afterReadWord]
@[simp] theorem State.afterReadWord_nextTimer (a : Word) :
    (s.afterReadWord a).nextTimer = s.nextTimer := by
  simp [State.afterReadWord]
@[simp] theorem State.afterReadWord_fault (a : Word) : (s.afterReadWord a).fault = s.fault := by
  simp [State.afterReadWord]
@[simp] theorem State.afterReadWord_events (a : Word) : (s.afterReadWord a).events = s.events := by
  simp [State.afterReadWord]
@[simp] theorem State.afterReadWord_seqNo (a : Word) : (s.afterReadWord a).seqNo = s.seqNo := by
  simp [State.afterReadWord]
@[simp] theorem State.afterReadWord_outputs (a : Word) :
    (s.afterReadWord a).outputs = s.outputs := by
  simp [State.afterReadWord]
@[simp] theorem State.afterReadWord_fdc (a : Word) : (s.afterReadWord a).fdc = s.fdc := by
  simp [State.afterReadWord]
@[simp] theorem State.afterReadWord_drv (a : Word) : (s.afterReadWord a).drv = s.drv := by
  simp [State.afterReadWord]
@[simp] theorem State.afterReadWord_cas (a : Word) : (s.afterReadWord a).cas = s.cas := by
  simp [State.afterReadWord]
@[simp] theorem State.afterReadWord_running (a : Word) :
    (s.afterReadWord a).running = s.running := by
  simp [State.afterReadWord]
@[simp] theorem State.afterReadWord_breakpoints (a : Word) :
    (s.afterReadWord a).breakpoints = s.breakpoints := by
  simp [State.afterReadWord]
@[simp] theorem State.afterReadWord_skipBreak (a : Word) :
    (s.afterReadWord a).skipBreak = s.skipBreak := by
  simp [State.afterReadWord]
@[simp] theorem State.afterReadWord_shutDown (a : Word) :
    (s.afterReadWord a).shutDown = s.shutDown := by
  simp [State.afterReadWord]
@[simp] theorem State.afterReadWord_inbox (a : Word) : (s.afterReadWord a).inbox = s.inbox := by
  simp [State.afterReadWord]
@[simp] theorem State.afterReadWord_cfg (a : Word) : (s.afterReadWord a).cfg = s.cfg := by
  simp [State.afterReadWord]
@[simp] theorem State.afterReadWord_drawNo (a : Word) : (s.afterReadWord a).drawNo = s.drawNo := by
  simp [State.afterReadWord]

@[simp] theorem State.memWriteWord_cpu (a w : Word) : (s.memWriteWord a w).cpu = s.cpu := by
  simp [State.memWriteWord]
@[simp] theorem State.memWriteWord_lat (a w : Word) : (s.memWriteWord a w).lat = s.lat := by
  simp [State.memWriteWord]
@[simp] theorem State.memWriteWord_modeImage (a w : Word) :
    (s.memWriteWord a w).modeImage = s.modeImage := by
  simp [State.memWriteWord]
@[simp] theorem State.memWriteWord_romSize (a w : Word) :
    (s.memWriteWord a w).romSize = s.romSize := by
  simp [State.memWriteWord]
@[simp] theorem State.memWriteWord_clock (a w : Word) : (s.memWriteWord a w).clock = s.clock := by
  simp [State.memWriteWord]
@[simp] theorem State.memWriteWord_nextTimer (a w : Word) :
    (s.memWriteWord a w).nextTimer = s.nextTimer := by
  simp [State.memWriteWord]
@[simp] theorem State.memWriteWord_fault (a w : Word) : (s.memWriteWord a w).fault = s.fault := by
  simp [State.memWriteWord]
@[simp] theorem State.memWriteWord_events (a w : Word) :
    (s.memWriteWord a w).events = s.events := by
  simp [State.memWriteWord]
@[simp] theorem State.memWriteWord_seqNo (a w : Word) : (s.memWriteWord a w).seqNo = s.seqNo := by
  simp [State.memWriteWord]
@[simp] theorem State.memWriteWord_fdc (a w : Word) : (s.memWriteWord a w).fdc = s.fdc := by
  simp [State.memWriteWord]
@[simp] theorem State.memWriteWord_drv (a w : Word) : (s.memWriteWord a w).drv = s.drv := by
  simp [State.memWriteWord]
@[simp] theorem State.memWriteWord_cas (a w : Word) : (s.memWriteWord a w).cas = s.cas := by
  simp [State.memWriteWord]
@[simp] theorem State.memWriteWord_kbd (a w : Word) : (s.memWriteWord a w).kbd = s.kbd := by
  simp [State.memWriteWord]
@[simp] theorem State.memWriteWord_running (a w : Word) :
    (s.memWriteWord a w).running = s.running := by
  simp [State.memWriteWord]
@[simp] theorem State.memWriteWord_breakpoints (a w : Word) :
    (s.memWriteWord a w).breakpoints = s.breakpoints := by
  simp [State.memWriteWord]
@[simp] theorem State.memWriteWord_skipBreak (a w : Word) :
    (s.memWriteWord a w).skipBreak = s.skipBreak := by
  simp [State.memWriteWord]
@[simp] theorem State.memWriteWord_shutDown (a w : Word) :
    (s.memWriteWord a w).shutDown = s.shutDown := by
  simp [State.memWriteWord]
@[simp] theorem State.memWriteWord_inbox (a w : Word) : (s.memWriteWord a w).inbox = s.inbox := by
  simp [State.memWriteWord]
@[simp] theorem State.memWriteWord_cfg (a w : Word) : (s.memWriteWord a w).cfg = s.cfg := by
  simp [State.memWriteWord]
@[simp] theorem State.memWriteWord_drawNo (a w : Word) :
    (s.memWriteWord a w).drawNo = s.drawNo := by
  simp [State.memWriteWord]

@[simp] theorem State.push_lat (w : Word) : (s.push w).lat = s.lat := by
  simp [State.push]
@[simp] theorem State.push_modeImage (w : Word) : (s.push w).modeImage = s.modeImage := by
  simp [State.push]
@[simp] theorem State.push_romSize (w : Word) : (s.push w).romSize = s.romSize := by
  simp [State.push]
@[simp] theorem State.push_clock (w : Word) : (s.push w).clock = s.clock := by
  simp [State.push]
@[simp] theorem State.push_nextTimer (w : Word) : (s.push w).nextTimer = s.nextTimer := by
  simp [State.push]
@[simp] theorem State.push_fault (w : Word) : (s.push w).fault = s.fault := by
  simp [State.push]
@[simp] theorem State.push_events (w : Word) : (s.push w).events = s.events := by
  simp [State.push]
@[simp] theorem State.push_seqNo (w : Word) : (s.push w).seqNo = s.seqNo := by
  simp [State.push]
@[simp] theorem State.push_fdc (w : Word) : (s.push w).fdc = s.fdc := by
  simp [State.push]
@[simp] theorem State.push_drv (w : Word) : (s.push w).drv = s.drv := by
  simp [State.push]
@[simp] theorem State.push_cas (w : Word) : (s.push w).cas = s.cas := by
  simp [State.push]
@[simp] theorem State.push_kbd (w : Word) : (s.push w).kbd = s.kbd := by
  simp [State.push]
@[simp] theorem State.push_running (w : Word) : (s.push w).running = s.running := by
  simp [State.push]
@[simp] theorem State.push_breakpoints (w : Word) : (s.push w).breakpoints = s.breakpoints := by
  simp [State.push]
@[simp] theorem State.push_skipBreak (w : Word) : (s.push w).skipBreak = s.skipBreak := by
  simp [State.push]
@[simp] theorem State.push_shutDown (w : Word) : (s.push w).shutDown = s.shutDown := by
  simp [State.push]
@[simp] theorem State.push_inbox (w : Word) : (s.push w).inbox = s.inbox := by
  simp [State.push]
@[simp] theorem State.push_cfg (w : Word) : (s.push w).cfg = s.cfg := by
  simp [State.push]
@[simp] theorem State.push_drawNo (w : Word) : (s.push w).drawNo = s.drawNo := by
  simp [State.push]

@[simp] theorem State.push_cpu (w : Word) : (s.push w).cpu = { s.cpu with sp := s.cpu.sp - 2 } := by
  simp [State.push]

@[simp] theorem State.region_push (w a : Word) : (s.push w).region a = s.region a :=
  State.region_congr (by simp) a

/-- The cells after a push: the high byte at SP−1, then the low byte at SP−2 (R13). -/
theorem State.push_get (w : Word) (n : Nat) :
    (s.push w).mem.get n =
      if s.writable (s.cpu.sp - 2) ∧ n = (s.cpu.sp - 2).toNat then lo w
      else if s.writable (s.cpu.sp - 1) ∧ n = (s.cpu.sp - 1).toNat then hi w
      else s.mem.get n := by
  simp [State.push, State.memWrite_get]

/-- A push keeps the canonical form of memory. -/
theorem State.push_wf (w : Word) (h : s.mem.wf = true) : (s.push w).mem.wf = true :=
  State.memWrite_wf _ _ (State.memWrite_wf (s.setSP (s.cpu.sp - 1)) _ h)

/-- A push keeps the canonical form of the flags. -/
theorem State.push_initedWf (w : Word) (h : initedWf s.inited = true) :
    initedWf (s.push w).inited = true :=
  State.memWrite_initedWf _ _ (State.memWrite_initedWf (s.setSP (s.cpu.sp - 1)) _ h)

/-- A push leaves ROM alone. -/
theorem State.push_rom (w : Word) {n : Nat} (h : n < s.romSize) :
    (s.push w).mem.get n = s.mem.get n := by
  rw [State.push_get, if_neg, if_neg]
  · rintro ⟨h1, h2⟩
    exact absurd h1 (by rw [State.not_writable_rom s (h2 ▸ h)]; exact Bool.false_ne_true)
  · rintro ⟨h1, h2⟩
    exact absurd h1 (by rw [State.not_writable_rom s (h2 ▸ h)]; exact Bool.false_ne_true)

@[simp] theorem State.afterPop_lat : (s.afterPop).lat = s.lat := by
  simp [State.afterPop]
@[simp] theorem State.afterPop_modeImage : (s.afterPop).modeImage = s.modeImage := by
  simp [State.afterPop]
@[simp] theorem State.afterPop_romSize : (s.afterPop).romSize = s.romSize := by
  simp [State.afterPop]
@[simp] theorem State.afterPop_mem : (s.afterPop).mem = s.mem := by
  simp [State.afterPop]
@[simp] theorem State.afterPop_inited : (s.afterPop).inited = s.inited := by
  simp [State.afterPop]
@[simp] theorem State.afterPop_clock : (s.afterPop).clock = s.clock := by
  simp [State.afterPop]
@[simp] theorem State.afterPop_nextTimer : (s.afterPop).nextTimer = s.nextTimer := by
  simp [State.afterPop]
@[simp] theorem State.afterPop_fault : (s.afterPop).fault = s.fault := by
  simp [State.afterPop]
@[simp] theorem State.afterPop_events : (s.afterPop).events = s.events := by
  simp [State.afterPop]
@[simp] theorem State.afterPop_seqNo : (s.afterPop).seqNo = s.seqNo := by
  simp [State.afterPop]
@[simp] theorem State.afterPop_outputs : (s.afterPop).outputs = s.outputs := by
  simp [State.afterPop]
@[simp] theorem State.afterPop_fdc : (s.afterPop).fdc = s.fdc := by
  simp [State.afterPop]
@[simp] theorem State.afterPop_drv : (s.afterPop).drv = s.drv := by
  simp [State.afterPop]
@[simp] theorem State.afterPop_cas : (s.afterPop).cas = s.cas := by
  simp [State.afterPop]
@[simp] theorem State.afterPop_running : (s.afterPop).running = s.running := by
  simp [State.afterPop]
@[simp] theorem State.afterPop_breakpoints : (s.afterPop).breakpoints = s.breakpoints := by
  simp [State.afterPop]
@[simp] theorem State.afterPop_skipBreak : (s.afterPop).skipBreak = s.skipBreak := by
  simp [State.afterPop]
@[simp] theorem State.afterPop_shutDown : (s.afterPop).shutDown = s.shutDown := by
  simp [State.afterPop]
@[simp] theorem State.afterPop_inbox : (s.afterPop).inbox = s.inbox := by
  simp [State.afterPop]
@[simp] theorem State.afterPop_cfg : (s.afterPop).cfg = s.cfg := by
  simp [State.afterPop]
@[simp] theorem State.afterPop_drawNo : (s.afterPop).drawNo = s.drawNo := by
  simp [State.afterPop]

@[simp] theorem State.afterPop_cpu : s.afterPop.cpu = { s.cpu with sp := s.cpu.sp + 2 } := by
  simp [State.afterPop]

/-- A word written to RAM or screen reads back (R88). -/
theorem State.memWriteWord_get (a w : Word) (n : Nat) :
    (s.memWriteWord a w).mem.get n =
      if s.writable (a + 1) ∧ n = (a + 1).toNat then hi w
      else if s.writable a ∧ n = a.toNat then lo w
      else s.mem.get n := by
  simp [State.memWriteWord, State.memWrite_get]

/-! ### Interrupt entry and return -/

@[simp] theorem State.afterHaltTest_cpu : (s.afterHaltTest).cpu = s.cpu := by
  unfold State.afterHaltTest; split <;> simp
@[simp] theorem State.afterHaltTest_lat : (s.afterHaltTest).lat = s.lat := by
  unfold State.afterHaltTest; split <;> simp
@[simp] theorem State.afterHaltTest_modeImage : (s.afterHaltTest).modeImage = s.modeImage := by
  unfold State.afterHaltTest; split <;> simp
@[simp] theorem State.afterHaltTest_romSize : (s.afterHaltTest).romSize = s.romSize := by
  unfold State.afterHaltTest; split <;> simp
@[simp] theorem State.afterHaltTest_mem : (s.afterHaltTest).mem = s.mem := by
  unfold State.afterHaltTest; split <;> simp
@[simp] theorem State.afterHaltTest_inited : (s.afterHaltTest).inited = s.inited := by
  unfold State.afterHaltTest; split <;> simp
@[simp] theorem State.afterHaltTest_clock : (s.afterHaltTest).clock = s.clock := by
  unfold State.afterHaltTest; split <;> simp
@[simp] theorem State.afterHaltTest_nextTimer : (s.afterHaltTest).nextTimer = s.nextTimer := by
  unfold State.afterHaltTest; split <;> simp
@[simp] theorem State.afterHaltTest_fault : (s.afterHaltTest).fault = s.fault := by
  unfold State.afterHaltTest; split <;> simp
@[simp] theorem State.afterHaltTest_events : (s.afterHaltTest).events = s.events := by
  unfold State.afterHaltTest; split <;> simp
@[simp] theorem State.afterHaltTest_seqNo : (s.afterHaltTest).seqNo = s.seqNo := by
  unfold State.afterHaltTest; split <;> simp
@[simp] theorem State.afterHaltTest_outputs : (s.afterHaltTest).outputs = s.outputs := by
  unfold State.afterHaltTest; split <;> simp
@[simp] theorem State.afterHaltTest_fdc : (s.afterHaltTest).fdc = s.fdc := by
  unfold State.afterHaltTest; split <;> simp
@[simp] theorem State.afterHaltTest_drv : (s.afterHaltTest).drv = s.drv := by
  unfold State.afterHaltTest; split <;> simp
@[simp] theorem State.afterHaltTest_cas : (s.afterHaltTest).cas = s.cas := by
  unfold State.afterHaltTest; split <;> simp
@[simp] theorem State.afterHaltTest_running : (s.afterHaltTest).running = s.running := by
  unfold State.afterHaltTest; split <;> simp
@[simp] theorem State.afterHaltTest_breakpoints :
    (s.afterHaltTest).breakpoints = s.breakpoints := by
  unfold State.afterHaltTest; split <;> simp
@[simp] theorem State.afterHaltTest_skipBreak : (s.afterHaltTest).skipBreak = s.skipBreak := by
  unfold State.afterHaltTest; split <;> simp
@[simp] theorem State.afterHaltTest_shutDown : (s.afterHaltTest).shutDown = s.shutDown := by
  unfold State.afterHaltTest; split <;> simp
@[simp] theorem State.afterHaltTest_inbox : (s.afterHaltTest).inbox = s.inbox := by
  unfold State.afterHaltTest; split <;> simp
@[simp] theorem State.afterHaltTest_cfg : (s.afterHaltTest).cfg = s.cfg := by
  unfold State.afterHaltTest; split <;> simp
@[simp] theorem State.afterHaltTest_drawNo : (s.afterHaltTest).drawNo = s.drawNo := by
  unfold State.afterHaltTest; split <;> simp

@[simp] theorem State.enterHandler_lat (v : Word) (b : Bool) :
    (s.enterHandler v b).lat = s.lat := by
  simp [State.enterHandler]
@[simp] theorem State.enterHandler_modeImage (v : Word) (b : Bool) :
    (s.enterHandler v b).modeImage = s.modeImage := by
  simp [State.enterHandler]
@[simp] theorem State.enterHandler_romSize (v : Word) (b : Bool) :
    (s.enterHandler v b).romSize = s.romSize := by
  simp [State.enterHandler]
@[simp] theorem State.enterHandler_clock (v : Word) (b : Bool) :
    (s.enterHandler v b).clock = s.clock := by
  simp [State.enterHandler]
@[simp] theorem State.enterHandler_nextTimer (v : Word) (b : Bool) :
    (s.enterHandler v b).nextTimer = s.nextTimer := by
  simp [State.enterHandler]
@[simp] theorem State.enterHandler_fault (v : Word) (b : Bool) :
    (s.enterHandler v b).fault = s.fault := by
  simp [State.enterHandler]
@[simp] theorem State.enterHandler_events (v : Word) (b : Bool) :
    (s.enterHandler v b).events = s.events := by
  simp [State.enterHandler]
@[simp] theorem State.enterHandler_seqNo (v : Word) (b : Bool) :
    (s.enterHandler v b).seqNo = s.seqNo := by
  simp [State.enterHandler]
@[simp] theorem State.enterHandler_fdc (v : Word) (b : Bool) :
    (s.enterHandler v b).fdc = s.fdc := by
  simp [State.enterHandler]
@[simp] theorem State.enterHandler_drv (v : Word) (b : Bool) :
    (s.enterHandler v b).drv = s.drv := by
  simp [State.enterHandler]
@[simp] theorem State.enterHandler_cas (v : Word) (b : Bool) :
    (s.enterHandler v b).cas = s.cas := by
  simp [State.enterHandler]
@[simp] theorem State.enterHandler_running (v : Word) (b : Bool) :
    (s.enterHandler v b).running = s.running := by
  simp [State.enterHandler]
@[simp] theorem State.enterHandler_breakpoints (v : Word) (b : Bool) :
    (s.enterHandler v b).breakpoints = s.breakpoints := by
  simp [State.enterHandler]
@[simp] theorem State.enterHandler_skipBreak (v : Word) (b : Bool) :
    (s.enterHandler v b).skipBreak = s.skipBreak := by
  simp [State.enterHandler]
@[simp] theorem State.enterHandler_shutDown (v : Word) (b : Bool) :
    (s.enterHandler v b).shutDown = s.shutDown := by
  simp [State.enterHandler]
@[simp] theorem State.enterHandler_inbox (v : Word) (b : Bool) :
    (s.enterHandler v b).inbox = s.inbox := by
  simp [State.enterHandler]
@[simp] theorem State.enterHandler_cfg (v : Word) (b : Bool) :
    (s.enterHandler v b).cfg = s.cfg := by
  simp [State.enterHandler]
@[simp] theorem State.enterHandler_drawNo (v : Word) (b : Bool) :
    (s.enterHandler v b).drawNo = s.drawNo := by
  simp [State.enterHandler]

/-- The CPU after the entry of a handler (R520, R522). -/
@[simp] theorem State.enterHandler_cpu (v : Word) (b : Bool) :
    (s.enterHandler v b).cpu =
      { s.cpu with
        halted := false, sp := s.cpu.sp - 2, iff1 := false, iff2 := b, pc := v } := by
  simp [State.enterHandler]

/-- The cells after the entry of a handler: the address past a HALT is on the stack. -/
theorem State.enterHandler_get (v : Word) (b : Bool) (n : Nat) :
    (s.enterHandler v b).mem.get n =
      (s.push (if s.resumeAfterHalt then s.cpu.pc + 1 else s.cpu.pc)).mem.get n := by
  simp [State.enterHandler, State.push_get, State.writable, State.region]

/-- The entry of a handler keeps the canonical form of memory. -/
theorem State.enterHandler_wf (v : Word) (b : Bool) (h : s.mem.wf = true) :
    (s.enterHandler v b).mem.wf = true :=
  State.push_wf _ _ (by simpa [State.enterHandler] using h)

/-- The entry of a handler keeps the canonical form of the flags. -/
theorem State.enterHandler_initedWf (v : Word) (b : Bool) (h : initedWf s.inited = true) :
    initedWf (s.enterHandler v b).inited = true :=
  State.push_initedWf _ _ (by simpa [State.enterHandler] using h)

@[simp] theorem State.leaveHandler_lat : (s.leaveHandler).lat = s.lat := by
  simp [State.leaveHandler]
@[simp] theorem State.leaveHandler_modeImage : (s.leaveHandler).modeImage = s.modeImage := by
  simp [State.leaveHandler]
@[simp] theorem State.leaveHandler_romSize : (s.leaveHandler).romSize = s.romSize := by
  simp [State.leaveHandler]
@[simp] theorem State.leaveHandler_mem : (s.leaveHandler).mem = s.mem := by
  simp [State.leaveHandler]
@[simp] theorem State.leaveHandler_inited : (s.leaveHandler).inited = s.inited := by
  simp [State.leaveHandler]
@[simp] theorem State.leaveHandler_clock : (s.leaveHandler).clock = s.clock := by
  simp [State.leaveHandler]
@[simp] theorem State.leaveHandler_nextTimer : (s.leaveHandler).nextTimer = s.nextTimer := by
  simp [State.leaveHandler]
@[simp] theorem State.leaveHandler_fault : (s.leaveHandler).fault = s.fault := by
  simp [State.leaveHandler]
@[simp] theorem State.leaveHandler_events : (s.leaveHandler).events = s.events := by
  simp [State.leaveHandler]
@[simp] theorem State.leaveHandler_seqNo : (s.leaveHandler).seqNo = s.seqNo := by
  simp [State.leaveHandler]
@[simp] theorem State.leaveHandler_outputs : (s.leaveHandler).outputs = s.outputs := by
  simp [State.leaveHandler]
@[simp] theorem State.leaveHandler_fdc : (s.leaveHandler).fdc = s.fdc := by
  simp [State.leaveHandler]
@[simp] theorem State.leaveHandler_drv : (s.leaveHandler).drv = s.drv := by
  simp [State.leaveHandler]
@[simp] theorem State.leaveHandler_cas : (s.leaveHandler).cas = s.cas := by
  simp [State.leaveHandler]
@[simp] theorem State.leaveHandler_running : (s.leaveHandler).running = s.running := by
  simp [State.leaveHandler]
@[simp] theorem State.leaveHandler_breakpoints : (s.leaveHandler).breakpoints = s.breakpoints := by
  simp [State.leaveHandler]
@[simp] theorem State.leaveHandler_skipBreak : (s.leaveHandler).skipBreak = s.skipBreak := by
  simp [State.leaveHandler]
@[simp] theorem State.leaveHandler_shutDown : (s.leaveHandler).shutDown = s.shutDown := by
  simp [State.leaveHandler]
@[simp] theorem State.leaveHandler_inbox : (s.leaveHandler).inbox = s.inbox := by
  simp [State.leaveHandler]
@[simp] theorem State.leaveHandler_cfg : (s.leaveHandler).cfg = s.cfg := by
  simp [State.leaveHandler]
@[simp] theorem State.leaveHandler_drawNo : (s.leaveHandler).drawNo = s.drawNo := by
  simp [State.leaveHandler]

/-- The CPU after the return from a handler (R432, R433). -/
@[simp] theorem State.leaveHandler_cpu :
    s.leaveHandler.cpu =
      { s.cpu with sp := s.cpu.sp + 2, pc := s.popWord, iff1 := s.cpu.iff2 } := by
  simp [State.leaveHandler]

end Sys2Proof.Machine
end

