-- ==== Sys2Proof/Laws/Flags.lean ====
section
/-! SUPPORT. The bits of a flag byte: what the byte of a `Flags` holds, and which bits a write with
drawn bits leaves exact (R14, R33). -/

namespace Sys2Proof.Machine

/-! ### The byte of a Flags -/

theorem Flags.toByte_s (f : Flags) : f.toByte.getLsbD 7 = f.s := by
  obtain ⟨a, b, c, d, e, g, h, i⟩ := f
  revert a b c d e g h i; decide
theorem Flags.toByte_z (f : Flags) : f.toByte.getLsbD 6 = f.z := by
  obtain ⟨a, b, c, d, e, g, h, i⟩ := f
  revert a b c d e g h i; decide
theorem Flags.toByte_f5 (f : Flags) : f.toByte.getLsbD 5 = f.f5 := by
  obtain ⟨a, b, c, d, e, g, h, i⟩ := f
  revert a b c d e g h i; decide
theorem Flags.toByte_h (f : Flags) : f.toByte.getLsbD 4 = f.h := by
  obtain ⟨a, b, c, d, e, g, h, i⟩ := f
  revert a b c d e g h i; decide
theorem Flags.toByte_f3 (f : Flags) : f.toByte.getLsbD 3 = f.f3 := by
  obtain ⟨a, b, c, d, e, g, h, i⟩ := f
  revert a b c d e g h i; decide
theorem Flags.toByte_pv (f : Flags) : f.toByte.getLsbD 2 = f.pv := by
  obtain ⟨a, b, c, d, e, g, h, i⟩ := f
  revert a b c d e g h i; decide
theorem Flags.toByte_n (f : Flags) : f.toByte.getLsbD 1 = f.n := by
  obtain ⟨a, b, c, d, e, g, h, i⟩ := f
  revert a b c d e g h i; decide
theorem Flags.toByte_c (f : Flags) : f.toByte.getLsbD 0 = f.c := by
  obtain ⟨a, b, c, d, e, g, h, i⟩ := f
  revert a b c d e g h i; decide

/-- The six documented bits. -/
theorem Flags.toByte_bits (f : Flags) : FlagBits f.toByte f.s f.z f.h f.pv f.n f.c :=
  ⟨f.toByte_s, f.toByte_z, f.toByte_h, f.toByte_pv, f.toByte_n, f.toByte_c⟩

/-- F5 and F3. -/
theorem Flags.toByte_undoc (f : Flags) : Undoc53 f.toByte f.f5 f.f3 := ⟨f.toByte_f5, f.toByte_f3⟩

/-! ### Drawn bits -/

/-- F with the bits of `m` from `d`. -/
def drawnByte (f : Flags) (d m : Byte) : Byte := (f.toByte &&& ~~~m) ||| (d &&& m)

/-- A bit outside the mask is exact. -/
theorem drawnByte_exact (f : Flags) (d m : Byte) {k : Nat} (hk : k < 8) (h : m.getLsbD k = false) :
    (drawnByte f d m).getLsbD k = f.toByte.getLsbD k := by
  have h' : m[k] = false := by rwa [BitVec.getLsbD_eq_getElem hk] at h
  simp [drawnByte, h', hk]

/-- With no mask every bit is exact. -/
theorem drawnByte_zero (f : Flags) (d : Byte) : drawnByte f d 0x00 = f.toByte := by
  have h1 (x : Byte) : x &&& ~~~(0x00 : Byte) = x := BitVec.and_allOnes
  have h2 (x : Byte) : x &&& (0x00 : Byte) = 0x00 := BitVec.and_zero
  rw [drawnByte, h1, h2]
  exact BitVec.or_zero

/-- The six documented bits are exact when only F5 and F3 may be drawn. -/
theorem drawnByte_bits (f : Flags) (d m : Byte) (h : m &&& 0xD7 = 0) :
    FlagBits (drawnByte f d m) f.s f.z f.h f.pv f.n f.c := by
  have bit (k : Nat) (hk : k < 8) (h7 : (0xD7 : Byte).getLsbD k = true) :
      (drawnByte f d m).getLsbD k = f.toByte.getLsbD k := by
    refine drawnByte_exact f d m hk ?_
    have h0 : (m &&& 0xD7).getLsbD k = false := by rw [h]; exact BitVec.getLsbD_zero
    rwa [BitVec.getLsbD_and, h7, Bool.and_true] at h0
  exact ⟨(bit 7 (by decide) (by decide)).trans f.toByte_s,
    (bit 6 (by decide) (by decide)).trans f.toByte_z,
    (bit 4 (by decide) (by decide)).trans f.toByte_h,
    (bit 2 (by decide) (by decide)).trans f.toByte_pv,
    (bit 1 (by decide) (by decide)).trans f.toByte_n,
    (bit 0 (by decide) (by decide)).trans f.toByte_c⟩

/-- The mask of F5 and F3 under UNDOC_FLAGS touches no documented bit. -/
theorem undocMask_f53 (u : UndocFlags) : undocMask u maskF53 &&& 0xD7 = 0 := by
  cases u <;> decide

/-- Under `formula` nothing is drawn. -/
theorem undocMask_formula {u : UndocFlags} (h : u = .formula) (m : Byte) :
    undocMask u m = 0x00 := by
  rw [h]; rfl

/-- F under `formula`. -/
theorem drawnByte_formula {u : UndocFlags} (h : u = .formula) (f : Flags) (d m : Byte) :
    drawnByte f d (undocMask u m) = f.toByte := by
  rw [undocMask_formula h, drawnByte_zero]

end Sys2Proof.Machine
end

