-- ==== Sys2Proof/Laws/Frame.lean ====
section
/-! SUPPORT. Frames: what leaves every byte but some alone, and how an instruction that only
reads, stores one byte or stores a word meets its frame. -/

namespace Sys2Proof.Machine

variable {s t : State}

/-! ### Reads do not depend on the registers -/

theorem State.keyDequeue_withCpu (s : State) (c : Regs) :
    ({ s with cpu := c } : State).keyDequeue = { s.keyDequeue with cpu := c } := by
  cases hq : s.kbd.queue with
  | nil => simp only [State.keyDequeue, hq]
  | cons k rest =>
    simp only [State.keyDequeue, hq]
    split <;> rfl

theorem State.afterRead_withCpu (s : State) (c : Regs) (a : Word) :
    ({ s with cpu := c } : State).afterRead a = { s.afterRead a with cpu := c } := by
  unfold State.afterRead
  rw [State.region_congr (s := { s with cpu := c }) (t := s) rfl a]
  split
  · exact State.keyDequeue_withCpu s c
  all_goals rfl

theorem State.readByte_withCpu (s : State) (c : Regs) (a : Word) :
    ({ s with cpu := c } : State).readByte a = s.readByte a := by
  unfold State.readByte
  rw [State.region_congr (s := { s with cpu := c }) (t := s) rfl a, State.keyDequeue_withCpu]

/-! ### Frames -/

/-- A state with the same ROM size and cells meets every frame. -/
theorem SameBytes.of_mem (hr : t.romSize = s.romSize) (hm : t.mem = s.mem) (l : List Word) :
    SameBytes s t l := fun b _ =>
  ⟨by rw [hm], fun h => (State.readByte_congr hr.symm (by rw [hm]) h)⟩

/-- The cells decide what a frame says. -/
theorem SameBytes.of_get (hr : t.romSize = s.romSize) {l : List Word}
    (hm : ∀ b : Word, b ∉ l → t.mem.get b.toNat = s.mem.get b.toNat) : SameBytes s t l := by
  intro b hb
  refine ⟨hm b hb, fun hk => ?_⟩
  unfold State.readByte
  rw [State.region_congr hr]
  split <;> simp_all

theorem SameBytes.refl (s : State) (l : List Word) : SameBytes s s l := .of_mem rfl rfl l

/-- A frame over a state with the same cells. -/
theorem SameBytes.congr {t' : State} {l : List Word} (h : SameBytes s t l)
    (hr : t'.romSize = t.romSize) (hm : t'.mem = t.mem) (hs : t.romSize = s.romSize) :
    SameBytes s t' l :=
  .of_get (hr.trans hs) fun b hb => by rw [hm]; exact (h b hb).1

/-- A store of one byte, after any reads. -/
theorem SameBytes.memWrite {u : State} (a : Word) (v : Byte) (hu : u.mem = s.mem)
    (hr : t.romSize = s.romSize) (hm : t.mem = (u.memWrite a v).mem) :
    SameBytes s t [a] :=
  .of_get hr fun b hb => by
    rw [hm, State.memWrite_get_other u v (by simpa using hb), hu]

/-- A store of a word, after any reads. -/
theorem SameBytes.memWriteWord {u : State} (a w : Word) (hu : u.mem = s.mem)
    (hr : t.romSize = s.romSize)
    (hm : t.mem = (u.memWriteWord a w).mem) : SameBytes s t [a, a + 1] :=
  .of_get hr fun b hb => by
    simp only [List.mem_cons, List.not_mem_nil, or_false, not_or] at hb
    rw [hm, State.memWriteWord, State.memWrite_get_other _ _ hb.2, State.memWrite_get_other _ _ hb.1,
      hu]

/-- A push. -/
theorem SameBytes.push (w : Word) (hr : t.romSize = s.romSize) (hm : t.mem = (s.push w).mem) :
    SameBytes s t [s.cpu.sp - 1, s.cpu.sp - 2] :=
  .of_get hr fun b hb => by
    simp only [List.mem_cons, List.not_mem_nil, or_false, not_or] at hb
    have h1 : b.toNat ≠ (s.cpu.sp - 1).toNat := fun e => hb.1 (BitVec.eq_of_toNat_eq e)
    have h2 : b.toNat ≠ (s.cpu.sp - 2).toNat := fun e => hb.2 (BitVec.eq_of_toNat_eq e)
    rw [hm, State.push_get, if_neg (by tauto), if_neg (by tauto)]

/-- An instruction that stores nothing. -/
theorem Runs.plain {i : Instr} (h : exec i s = .next t) (hr : t.romSize = s.romSize)
    (hm : t.mem = s.mem) : Runs i s t [] := ⟨h, .of_mem hr hm _⟩

end Sys2Proof.Machine
end

