-- ==== Sys2Proof/Laws/Alu.lean ====
section
/-! SUPPORT. The 8-bit arithmetic: what the two-operand group does in every operand form, said
once, and its results as arithmetic on numbers. -/

namespace Sys2Proof.Machine

/-! ### Operand forms -/

/-- Every form of a two-operand instruction reads its operand, operates, and counts its cycles. -/
theorem exec_alu (s : State) (x : AluSource) (op : AluOp) :
    exec (x.instr op) s = .next (((x.after s).alu op (x.value s)).tick x.cost) := by
  rcases x with (r | _ | ⟨_ | _, d⟩) | n | ⟨_ | _, _ | _⟩ <;> cases op <;> rfl

/-- Reading the operand changes the keyboard at most. -/
theorem AluSource.after_eq (s : State) (x : AluSource) : ∃ k, x.after s = { s with kbd := k } := by
  rcases x with (r | _ | ⟨_ | _, d⟩) | n | ⟨_ | _, _ | _⟩
  all_goals first | exact ⟨s.kbd, rfl⟩ | exact ⟨_, s.afterRead_eq _⟩

/-- Writing an operand back stores to its own byte alone. -/
theorem MOperand.put_sameBytes (s : State) (m : MOperand) (v : Byte) :
    SameBytes s (m.put s v) (m.stored s) := by
  rcases m with r | _ | ⟨_ | _, d⟩
  · exact .of_mem (by rfl) (by rfl) _
  all_goals
    exact .memWrite (u := s.afterRead _) _ v (by simp) (by simp [MOperand.put, MOperand.addr]) rfl

@[simp] theorem MOperand.put_romSize (s : State) (m : MOperand) (v : Byte) :
    (m.put s v).romSize = s.romSize := by
  rcases m with r | _ | ⟨_ | _, d⟩ <;> simp [MOperand.put, MOperand.addr]

/-! ### Results -/

/-- The top bit of a byte. -/
theorem getLsbD_seven (v : Byte) : v.getLsbD 7 = decide (128 ≤ v.toNat) := by
  have := v.isLt
  simp only [BitVec.getLsbD, Nat.testBit_eq_decide_div_mod_eq, decide_eq_decide]
  omega

theorem add8_toNat (a b : Byte) (c : Bool) :
    (add8 a b c).1.toNat = (a.toNat + b.toNat + c.toNat) % 256 := by
  simp [add8]

theorem sub8_toNat (a b : Byte) (c : Bool) :
    ((sub8 a b c).1.toNat : Int) = ((a.toNat : Int) - b.toNat - c.toNat) % 256 := by
  simp only [sub8, BitVec.toNat_ofInt]
  omega

/-- PV of an addition is signed overflow (R290). -/
theorem add8_pv (a b : Byte) (c : Bool) :
    (add8 a b c).2.pv = true ↔
      a.toInt + b.toInt + c.toNat < -128 ∨ 127 < a.toInt + b.toInt + c.toNat := by
  have ha := a.isLt
  have hb := b.isLt
  have hr := add8_toNat a b c
  change (a.getLsbD 7 == b.getLsbD 7 && (add8 a b c).1.getLsbD 7 != a.getLsbD 7) = true ↔ _
  rw [getLsbD_seven a, getLsbD_seven b, getLsbD_seven (add8 a b c).1, hr]
  simp only [BitVec.toInt_eq_toNat_cond]
  cases c <;> (split <;> split <;> simp <;> omega)

/-- PV of a subtraction is signed overflow (R290). -/
theorem sub8_pv (a b : Byte) (c : Bool) :
    (sub8 a b c).2.pv = true ↔
      a.toInt - b.toInt - c.toNat < -128 ∨ 127 < a.toInt - b.toInt - c.toNat := by
  have ha := a.isLt
  have hb := b.isLt
  have hr : (sub8 a b c).1.toNat = (a.toNat + 512 - b.toNat - c.toNat) % 256 := by
    have := sub8_toNat a b c
    cases c <;> simp at this ⊢ <;> omega
  change (a.getLsbD 7 != b.getLsbD 7 && (sub8 a b c).1.getLsbD 7 != a.getLsbD 7) = true ↔ _
  rw [getLsbD_seven a, getLsbD_seven b, getLsbD_seven (sub8 a b c).1, hr]
  simp only [BitVec.toInt_eq_toNat_cond]
  cases c <;> (split <;> split <;> simp <;> omega)

/-- The flags of an increment (R300). -/
theorem incFlags_spec (old v : Byte) : IncFlags old (incFlags (Flags.ofByte old) v).toByte v := by
  have z : decide (v + 1 = 0) = decide (v = 0xFF) := by revert v; decide
  exact ⟨z ▸ Flags.toByte_bits _, Flags.toByte_undoc _⟩

/-- The flags of a decrement (R303). -/
theorem decFlags_spec (old v : Byte) : DecFlags old (decFlags (Flags.ofByte old) v).toByte v := by
  have z : decide (v - 1 = 0) = decide (v = 0x01) := by revert v; decide
  exact ⟨z ▸ Flags.toByte_bits _, Flags.toByte_undoc _⟩

/-- The adjusted A of DAA, as arithmetic (R320). -/
theorem daa_toNat (a : Byte) (f : Flags) :
    let corr := (if f.h = true ∨ 9 < a.toNat % 16 then 0x06 else 0) +
      (if f.c = true ∨ 0x99 < a.toNat then 0x60 else 0)
    (f.n = false → (daa a f).1.toNat = (a.toNat + corr) % 256) ∧
      (f.n = true → (daa a f).1.toNat = (a.toNat + 256 - corr) % 256) := by
  have := a.isLt
  intro corr
  constructor <;> intro h <;> simp only [daa, h] <;> simp only [corr] <;>
    by_cases h1 : (f.h || decide (9 < a.toNat % 16)) = true <;>
    by_cases h2 : (f.c || decide (0x99 < a.toNat)) = true
  all_goals simp only [Bool.or_eq_true, decide_eq_true_eq] at h1 h2
  all_goals simp [h1, h2, BitVec.toNat_sub]
  all_goals try omega

/-! ### 16-bit results -/

/-- The top bit of a word. -/
theorem getLsbD_fifteen (w : Word) : w.getLsbD 15 = decide (32768 ≤ w.toNat) := by
  have := w.isLt
  simp only [BitVec.getLsbD, Nat.testBit_eq_decide_div_mod_eq, decide_eq_decide]
  omega

theorem adc16_toNat (x y : Word) (c : Bool) :
    (adc16 x y c).1.toNat = (x.toNat + y.toNat + c.toNat) % 65536 := by
  simp [adc16]

theorem sbc16_toNat (x y : Word) (c : Bool) :
    ((sbc16 x y c).1.toNat : Int) = ((x.toNat : Int) - y.toNat - c.toNat) % 65536 := by
  simp only [sbc16, BitVec.toNat_ofInt]
  omega

/-- PV of `ADC HL,ss` is signed overflow (R351). -/
theorem adc16_pv (x y : Word) (c : Bool) :
    (adc16 x y c).2.pv =
      decide (x.toInt + y.toInt + c.toNat < -32768 ∨ 32767 < x.toInt + y.toInt + c.toNat) := by
  have hx := x.isLt
  have hy := y.isLt
  have hr := adc16_toNat x y c
  change (x.getLsbD 15 == y.getLsbD 15 && (adc16 x y c).1.getLsbD 15 != x.getLsbD 15) = _
  rw [getLsbD_fifteen x, getLsbD_fifteen y, getLsbD_fifteen (adc16 x y c).1, hr, Bool.eq_iff_iff]
  simp only [BitVec.toInt_eq_toNat_cond]
  cases c <;> (split <;> split <;> simp <;> omega)

/-- PV of `SBC HL,ss` is signed overflow (R352). -/
theorem sbc16_pv (x y : Word) (c : Bool) :
    (sbc16 x y c).2.pv =
      decide (x.toInt - y.toInt - c.toNat < -32768 ∨ 32767 < x.toInt - y.toInt - c.toNat) := by
  have hx := x.isLt
  have hy := y.isLt
  have hr : (sbc16 x y c).1.toNat = (x.toNat + 131072 - y.toNat - c.toNat) % 65536 := by
    have := sbc16_toNat x y c
    cases c <;> simp at this ⊢ <;> omega
  change (x.getLsbD 15 != y.getLsbD 15 && (sbc16 x y c).1.getLsbD 15 != x.getLsbD 15) = _
  rw [getLsbD_fifteen x, getLsbD_fifteen y, getLsbD_fifteen (sbc16 x y c).1, hr, Bool.eq_iff_iff]
  simp only [BitVec.toInt_eq_toNat_cond]
  cases c <;> (split <;> split <;> simp <;> omega)

end Sys2Proof.Machine
end

