-- ==== Sys2Proof/Laws/Ports.lean ====
section
/-! SUPPORT. The port accesses: what the device operations leave alone, when an access completes,
and the port map as ranges. -/

namespace Sys2Proof.Machine

variable {s t u : State}

/-! ### DevicesOnly -/

theorem DevicesOnly.refl (s : State) : DevicesOnly s s :=
  ⟨rfl, rfl, rfl, rfl, rfl, rfl, rfl, rfl, rfl, rfl, rfl, rfl, rfl, rfl, rfl⟩

theorem DevicesOnly.trans (h : DevicesOnly s t) (k : DevicesOnly t u) : DevicesOnly s u :=
  ⟨k.cpu.trans h.cpu, k.romSize.trans h.romSize, k.mem.trans h.mem, k.inited.trans h.inited,
    k.clock.trans h.clock, k.nextTimer.trans h.nextTimer, k.fault.trans h.fault, k.kbd.trans h.kbd,
    k.running.trans h.running, k.breakpoints.trans h.breakpoints, k.skipBreak.trans h.skipBreak,
    k.shutDown.trans h.shutDown, k.inbox.trans h.inbox, k.cfg.trans h.cfg, k.drawNo.trans h.drawNo⟩

/-- A port access stores to no byte. -/
theorem DevicesOnly.sameBytes (h : DevicesOnly s t) (l : List Word) : SameBytes s t l :=
  .of_mem h.romSize h.mem l

/-! ### The small updates -/

theorem emit_devices (s : State) (o : Output) : DevicesOnly s (s.emit o) :=
  ⟨rfl, rfl, rfl, rfl, rfl, rfl, rfl, rfl, rfl, rfl, rfl, rfl, rfl, rfl, rfl⟩
theorem raiseIrq_devices (s : State) (m : Byte) : DevicesOnly s (s.raiseIrq m) :=
  ⟨rfl, rfl, rfl, rfl, rfl, rfl, rfl, rfl, rfl, rfl, rfl, rfl, rfl, rfl, rfl⟩
theorem clearIrq_devices (s : State) (m : Byte) : DevicesOnly s (s.clearIrq m) :=
  ⟨rfl, rfl, rfl, rfl, rfl, rfl, rfl, rfl, rfl, rfl, rfl, rfl, rfl, rfl, rfl⟩
theorem raiseNmi_devices (s : State) (m : Byte) : DevicesOnly s (s.raiseNmi m) :=
  ⟨rfl, rfl, rfl, rfl, rfl, rfl, rfl, rfl, rfl, rfl, rfl, rfl, rfl, rfl, rfl⟩
theorem clearNmi_devices (s : State) (m : Byte) : DevicesOnly s (s.clearNmi m) :=
  ⟨rfl, rfl, rfl, rfl, rfl, rfl, rfl, rfl, rfl, rfl, rfl, rfl, rfl, rfl, rfl⟩
theorem lat_devices (s : State) (l : Latches) : DevicesOnly s { s with lat := l } :=
  ⟨rfl, rfl, rfl, rfl, rfl, rfl, rfl, rfl, rfl, rfl, rfl, rfl, rfl, rfl, rfl⟩
theorem modeImage_devices (s : State) (v : Byte) : DevicesOnly s { s with modeImage := v } :=
  ⟨rfl, rfl, rfl, rfl, rfl, rfl, rfl, rfl, rfl, rfl, rfl, rfl, rfl, rfl, rfl⟩
theorem fdc_devices (s : State) (f : Fdc) : DevicesOnly s { s with fdc := f } :=
  ⟨rfl, rfl, rfl, rfl, rfl, rfl, rfl, rfl, rfl, rfl, rfl, rfl, rfl, rfl, rfl⟩
theorem drv_devices (s : State) (d : Vector Drive 4) : DevicesOnly s { s with drv := d } :=
  ⟨rfl, rfl, rfl, rfl, rfl, rfl, rfl, rfl, rfl, rfl, rfl, rfl, rfl, rfl, rfl⟩
theorem cas_devices (s : State) (c : Cassette) : DevicesOnly s { s with cas := c } :=
  ⟨rfl, rfl, rfl, rfl, rfl, rfl, rfl, rfl, rfl, rfl, rfl, rfl, rfl, rfl, rfl⟩
theorem schedule_devices (s : State) (k : Byte) (d : Nat) (x : EventAction) :
    DevicesOnly s (s.schedule k d x) :=
  ⟨rfl, rfl, rfl, rfl, rfl, rfl, rfl, rfl, rfl, rfl, rfl, rfl, rfl, rfl, rfl⟩
theorem cancel_devices (s : State) (m : Byte) : DevicesOnly s (s.cancel m) :=
  ⟨rfl, rfl, rfl, rfl, rfl, rfl, rfl, rfl, rfl, rfl, rfl, rfl, rfl, rfl, rfl⟩

/-! ### The disk controller -/

theorem checkDiskMotorOff_devices (s : State) : DevicesOnly s s.checkDiskMotorOff := by
  unfold State.checkDiskMotorOff
  split
  · exact ((fdc_devices s _).trans (emit_devices _ _)).trans (raiseNmi_devices _ _)
  · exact .refl s

theorem afterStatusRead_devices (s : State) : DevicesOnly s s.afterStatusRead :=
  (checkDiskMotorOff_devices s).trans (clearNmi_devices _ _)

theorem afterDataRead_devices (s : State) : DevicesOnly s s.afterDataRead := by
  unfold State.afterDataRead
  split
  · dsimp only
    split
    · exact (fdc_devices s _).trans ((cancel_devices _ _).trans (schedule_devices _ _ _ _))
    · exact fdc_devices s _
  · exact .refl s

theorem fdcSelect_devices (s : State) (v : Byte) : DevicesOnly s (s.fdcSelect v) := by
  unfold State.fdcSelect
  have h1 := (clearNmi_devices s 0x40).trans (fdc_devices _
    { (s.clearNmi 0x40).fdc with side := v.getLsbD 4, density := v.getLsbD 7 })
  split
  · exact h1
  · refine h1.trans (DevicesOnly.trans ?_ (fdc_devices _ _))
    split <;> split <;>
      first
        | exact (emit_devices _ _).trans (emit_devices _ _)
        | exact emit_devices _ _
        | exact .refl _

theorem setPhys_devices (s : State) (p : Nat) : DevicesOnly s (s.setPhys p) := drv_devices s _

theorem setStepDir_devices (s : State) (d : StepDir) : DevicesOnly s (s.setStepDir d) :=
  fdc_devices s _

theorem setStatus_devices (s : State) (v : Byte) : DevicesOnly s (s.setStatus v) := fdc_devices s _

theorem orStatus_devices (s : State) (v : Byte) : DevicesOnly s (s.orStatus v) := fdc_devices s _

theorem seek_devices (s : State) : DevicesOnly s s.seek := by
  unfold State.seek
  dsimp only
  refine DevicesOnly.trans ?_ ((setPhys_devices _ _).trans (fdc_devices _ _))
  split
  · exact setStepDir_devices _ _
  · split
    · exact setStepDir_devices _ _
    · exact .refl _

theorem stepBy_devices (s : State) (d : StepDir) (u : Bool) : DevicesOnly s (s.stepBy d u) := by
  unfold State.stepBy
  dsimp only
  split
  · exact (setPhys_devices _ _).trans (fdc_devices _ _)
  · exact setPhys_devices _ _

theorem typeIMove_devices (s : State) (c : Byte) : DevicesOnly s (s.typeIMove c) := by
  unfold State.typeIMove
  split
  · exact (setPhys_devices _ _).trans (fdc_devices _ _)
  · exact seek_devices s
  · exact stepBy_devices s _ _
  · exact stepBy_devices s _ _
  · exact (setStepDir_devices _ _).trans (stepBy_devices _ _ _)
  · exact (setStepDir_devices _ _).trans (stepBy_devices _ _ _)
  · exact (setStepDir_devices _ _).trans (stepBy_devices _ _ _)

theorem afterSearch_devices (s : State) (r : Option Nat) : DevicesOnly s (s.afterSearch r) := by
  unfold State.afterSearch
  split
  · exact orStatus_devices _ _
  · exact .refl _

theorem verify_devices (s : State) : DevicesOnly s s.verify := by
  unfold State.verify
  split
  · split
    · exact orStatus_devices _ _
    · split
      · exact orStatus_devices _ _
      · exact .refl _
  · dsimp only
    refine (afterSearch_devices s (s.searchSector none none)).trans ?_
    split
    · exact .refl _
    · split
      · exact orStatus_devices _ _
      · exact .refl _

theorem typeI_devices (s : State) (c : Byte) : DevicesOnly s (s.typeI c) := by
  unfold State.typeI
  dsimp only
  refine (typeIMove_devices s c).trans (DevicesOnly.trans ?_ (schedule_devices _ _ _ _))
  split
  · exact (setStatus_devices _ _).trans (verify_devices _)
  · exact setStatus_devices _ _

theorem readSector_devices (s : State) (c : Byte) : DevicesOnly s (s.readSector c) := by
  unfold State.readSector
  dsimp only
  generalize (s.setStatus 0x00).searchSector _ _ = r
  cases r
  · exact (setStatus_devices s 0x00).trans ((afterSearch_devices _ _).trans
      (schedule_devices _ _ _ _))
  · exact (setStatus_devices s 0x00).trans ((afterSearch_devices _ _).trans
      ((setStatus_devices _ _).trans ((fdc_devices _ _).trans (schedule_devices _ _ _ _))))

theorem forceInterrupt_devices (s : State) (c : Byte) : DevicesOnly s (s.forceInterrupt c) := by
  unfold State.forceInterrupt
  dsimp only
  split
  · exact (cancel_devices s kindDisk).trans ((setStatus_devices _ _).trans
      ((fdc_devices _ _).trans (raiseNmi_devices _ _)))
  · exact (cancel_devices s kindDisk).trans ((setStatus_devices _ _).trans
      ((fdc_devices _ _).trans (clearNmi_devices _ _)))

/-- A command that is not refused completes, and changes devices only. -/
theorem fdcCommand_admitted (s : State) {c : Byte} (h : CommandAdmitted c) :
    ∃ t, s.fdcCommand c = .ok t ∧ DevicesOnly s t := by
  have h1 := (clearNmi_devices s 0x80).trans (fdc_devices _ { (s.clearNmi 0x80).fdc with command := c })
  have hd : (c.extractLsb' 4 4).toNat = c.toNat / 16 := by
    simp only [BitVec.extractLsb'_toNat, Nat.shiftRight_eq_div_pow]
    omega
  have hc := c.isLt
  unfold State.fdcCommand
  dsimp only
  split
  all_goals first
    | exact ⟨_, rfl, h1.trans ((cancel_devices _ _).trans (typeI_devices _ _))⟩
    | exact ⟨_, rfl, h1.trans ((cancel_devices _ _).trans (readSector_devices _ _))⟩
    | exact ⟨_, rfl, h1.trans (forceInterrupt_devices _ _)⟩
    | skip
  exfalso
  unfold CommandAdmitted at h
  simp_all
  omega

theorem fdcCommand_devices {c : Byte} (h : s.fdcCommand c = .ok t) : DevicesOnly s t := by
  have h1 := (clearNmi_devices s 0x80).trans (fdc_devices _ { (s.clearNmi 0x80).fdc with command := c })
  unfold State.fdcCommand at h
  dsimp only at h
  split at h
  all_goals first
    | (injection h with h; subst h
       exact h1.trans ((cancel_devices _ _).trans (typeI_devices _ _)))
    | (injection h with h; subst h
       exact h1.trans ((cancel_devices _ _).trans (readSector_devices _ _)))
    | (injection h with h; subst h; exact h1.trans (forceInterrupt_devices _ _))
    | cases h

/-! ### The cassette -/

theorem scheduleKickOff_devices (s : State) : DevicesOnly s s.scheduleKickOff := by
  unfold State.scheduleKickOff
  split
  · exact .refl _
  · exact schedule_devices _ _ _ _

theorem cassetteOpen_devices (h : s.cassetteOpen = .ok t) : DevicesOnly s t := by
  unfold State.cassetteOpen at h
  split at h
  · injection h with h
    subst h
    exact cas_devices _ _
  · split at h
    · cases h
    · injection h with h
      subst h
      exact cas_devices _ _

theorem cassetteOpen_openable (h : s.cas.Openable) : ∃ t, s.cassetteOpen = .ok t := by
  unfold State.cassetteOpen
  split
  · exact ⟨_, rfl⟩
  · rename_i w hw
    have := h w hw
    rw [if_neg (by tauto)]
    exact ⟨_, rfl⟩

theorem cassetteMotor_devices {on : Bool} (h : s.cassetteMotor on = .ok t) : DevicesOnly s t := by
  unfold State.cassetteMotor at h
  split at h
  · injection h with h
    subst h
    exact .refl _
  · dsimp only at h
    have h1 := (cas_devices s { s.cas with motor := on }).trans
      (emit_devices _ (.motorLight (-1) on))
    split at h
    · split at h
      · cases ho : ({ s with cas := { s.cas with motor := on } }.emit
            (.motorLight (-1) on)).cassetteOpen with
        | error f => rw [ho] at h; cases h
        | ok v =>
          simp only [ho, Except.map, Except.ok.injEq] at h
          subst h
          exact h1.trans ((cassetteOpen_devices ho).trans (scheduleKickOff_devices _))
      · injection h with h
        subst h
        exact h1.trans (scheduleKickOff_devices _)
    · injection h with h
      subst h
      exact h1.trans (cas_devices _ _)

theorem cassetteMotor_admitted (s : State) (on : Bool)
    (h : on = true → s.cas.motor = false → s.cas.state = .close → s.cas.Openable) :
    ∃ t, s.cassetteMotor on = .ok t := by
  unfold State.cassetteMotor
  split
  · exact ⟨_, rfl⟩
  · rename_i hne
    dsimp only
    split
    · rename_i hon
      split
      · rename_i hc
        obtain ⟨t, ht⟩ := cassetteOpen_openable
          (s := { s with cas := { s.cas with motor := on } }.emit (.motorLight (-1) on))
          (h hon (by simpa [hon] using hne) hc)
        exact ⟨_, by rw [ht]; rfl⟩
      · exact ⟨_, rfl⟩
    · exact ⟨_, rfl⟩

/-! ### The port map as ranges (R100, R101) -/

theorem decodePort_irq {p : Byte} (h : p.toNat = 0xE0) :
    decodePort p = .irq := by
  revert p
  decide
theorem decodePort_nmi {p : Byte} (h : p.toNat = 0xE4) :
    decodePort p = .nmi := by
  revert p
  decide
theorem decodePort_uart {p : Byte} (h : 0xE8 ≤ p.toNat ∧ p.toNat ≤ 0xEB) :
    decodePort p = .uart := by
  revert p
  decide
theorem decodePort_mode {p : Byte} (h : 0xEC ≤ p.toNat ∧ p.toNat ≤ 0xEF) :
    decodePort p = .mode := by
  revert p
  decide
theorem decodePort_fdcStatus {p : Byte} (h : p.toNat = 0xF0) :
    decodePort p = .fdcStatus := by
  revert p
  decide
theorem decodePort_fdcTrack {p : Byte} (h : p.toNat = 0xF1) :
    decodePort p = .fdcTrack := by
  revert p
  decide
theorem decodePort_fdcSector {p : Byte} (h : p.toNat = 0xF2) :
    decodePort p = .fdcSector := by
  revert p
  decide
theorem decodePort_fdcData {p : Byte} (h : p.toNat = 0xF3) :
    decodePort p = .fdcData := by
  revert p
  decide
theorem decodePort_fdcSelect {p : Byte} (h : 0xF4 ≤ p.toNat ∧ p.toNat ≤ 0xF7) :
    decodePort p = .fdcSelect := by
  revert p
  decide
theorem decodePort_printer {p : Byte} (h : 0xF8 ≤ p.toNat ∧ p.toNat ≤ 0xFB) :
    decodePort p = .printer := by
  revert p
  decide
theorem decodePort_cassette {p : Byte} (h : 0xFC ≤ p.toNat) :
    decodePort p = .cassette := by
  revert p
  decide
theorem decodePort_unknown {p : Byte}
    (h : p.toNat < 0xE0 ∨ (0xE1 ≤ p.toNat ∧ p.toNat ≤ 0xE3) ∨ (0xE5 ≤ p.toNat ∧ p.toNat ≤ 0xE7)) :
    decodePort p = .unknown := by
  revert p
  decide

/-- Bit 5 of a byte tested with a mask (R109). -/
theorem and_0x20 (v : Byte) : v &&& 0x20 = 0 ↔ v.getLsbD 5 = false := by
  have h : ∀ v : Byte, v &&& 0x20 = 0 ↔ v.getLsbD 5 = false := by decide
  exact h v

/-! ### The router -/

theorem modeWrite_devices {v : Byte} (h : s.modeWrite v = .ok t) : DevicesOnly s t := by
  unfold State.modeWrite at h
  cases hm : State.cassetteMotor { s with modeImage := v } (v.getLsbD 1) with
  | error f => rw [hm] at h; cases h
  | ok u =>
    simp only [hm, Except.map, Except.ok.injEq] at h
    have h1 := (modeImage_devices s v).trans (cassetteMotor_devices hm)
    split at h
    · subst h
      exact h1
    · subst h
      exact h1.trans (emit_devices _ _)

/-- A port read changes devices only. -/
theorem ioRead_devices {port : Word} {v : Byte} (h : s.ioRead port = .ok (v, t)) :
    DevicesOnly s t := by
  unfold State.ioRead State.unknownPortRead at h
  dsimp only at h
  split at h <;> (try split at h) <;>
    first
      | (cases h; done)
      | (simp only [Except.ok.injEq, Prod.mk.injEq] at h
         obtain ⟨-, rfl⟩ := h
         first
           | exact .refl _
           | exact clearIrq_devices _ _
           | exact afterStatusRead_devices _
           | exact afterDataRead_devices _)

/-- A port read completes exactly when it is admitted (R110). -/
theorem ioRead_admitted (s : State) (port : Word) :
    s.InAdmitted port ↔ ∃ v t, s.ioRead port = .ok (v, t) := by
  unfold State.InAdmitted State.ioRead State.unknownPortRead
  cases hp : decodePort (lo port) <;> cases hc : s.cfg.unknownPorts <;> simp [hp]

/-- A port read that is not admitted faults (R110). -/
theorem ioRead_refused {port : Word} (h : ¬s.InAdmitted port) :
    s.ioRead port = .error (s.fatal (.unknownPortIn (lo port))) := by
  unfold State.InAdmitted at h
  unfold State.ioRead State.unknownPortRead
  cases hp : decodePort (lo port) <;> cases hc : s.cfg.unknownPorts <;> simp_all

/-- A port write changes devices only. -/
theorem ioWrite_devices {port : Word} {v : Byte} (h : s.ioWrite port v = .ok t) :
    DevicesOnly s t := by
  unfold State.ioWrite State.unknownPortWrite at h
  dsimp only at h
  split at h
  case h_4 => exact modeWrite_devices h
  case h_5 => exact fdcCommand_devices h
  case h_11 =>
    injection h with h
    subst h
    split
    · exact cas_devices _ _
    · exact .refl _
  case h_12 =>
    split at h
    · cases h
    · injection h with h
      subst h
      exact .refl _
  all_goals
    injection h with h
    subst h
    first
      | exact .refl _
      | exact lat_devices _ _
      | exact fdc_devices _ _
      | exact fdcSelect_devices _ _

/-- An admitted port write completes (R110, R592, R663). -/
theorem ioWrite_admitted {port : Word} {v : Byte} (h : s.OutAdmitted port v) :
    ∃ t, s.ioWrite port v = .ok t := by
  obtain ⟨h1, h2, h3⟩ := h
  unfold State.ioWrite State.unknownPortWrite
  dsimp only
  split
  case h_4 hp =>
    obtain ⟨t, ht⟩ := cassetteMotor_admitted { s with modeImage := v } (v.getLsbD 1) (h3 hp)
    exact ⟨_, by unfold State.modeWrite; rw [ht]; rfl⟩
  case h_5 hp =>
    obtain ⟨t, ht, -⟩ := fdcCommand_admitted s (h2 hp)
    exact ⟨t, ht⟩
  case h_12 hp => exact ⟨s, by rw [h1 hp]⟩
  all_goals exact ⟨_, rfl⟩

end Sys2Proof.Machine
end

