-- ==== Sys2Proof/Laws/Regs.lean ====
section
/-! SUPPORT. The register file: what each write does to each read (R30 to R32). -/

namespace Sys2Proof.Machine

variable (c : Regs) (v : Byte) (w : Word)

/-! ### Bytes -/

@[simp] theorem Regs.set_b : c.set .b v = { c with b := v } := rfl
@[simp] theorem Regs.set_c : c.set .c v = { c with c := v } := rfl
@[simp] theorem Regs.set_d : c.set .d v = { c with d := v } := rfl
@[simp] theorem Regs.set_e : c.set .e v = { c with e := v } := rfl
@[simp] theorem Regs.set_h : c.set .h v = { c with h := v } := rfl
@[simp] theorem Regs.set_l : c.set .l v = { c with l := v } := rfl
@[simp] theorem Regs.set_a : c.set .a v = { c with a := v } := rfl

@[simp] theorem Regs.get_set (r : Reg8) : (c.set r v).get r = v := by cases r <;> rfl

theorem Regs.get_set_other {r q : Reg8} (h : q ≠ r) : (c.set r v).get q = c.get q := by
  cases r <;> cases q <;> first | rfl | exact absurd rfl h

@[simp] theorem Regs.set_f (r : Reg8) : (c.set r v).f = c.f := by cases r <;> rfl
@[simp] theorem Regs.set_a' (r : Reg8) : (c.set r v).a' = c.a' := by cases r <;> rfl
@[simp] theorem Regs.set_f' (r : Reg8) : (c.set r v).f' = c.f' := by cases r <;> rfl
@[simp] theorem Regs.set_b' (r : Reg8) : (c.set r v).b' = c.b' := by cases r <;> rfl
@[simp] theorem Regs.set_c' (r : Reg8) : (c.set r v).c' = c.c' := by cases r <;> rfl
@[simp] theorem Regs.set_d' (r : Reg8) : (c.set r v).d' = c.d' := by cases r <;> rfl
@[simp] theorem Regs.set_e' (r : Reg8) : (c.set r v).e' = c.e' := by cases r <;> rfl
@[simp] theorem Regs.set_h' (r : Reg8) : (c.set r v).h' = c.h' := by cases r <;> rfl
@[simp] theorem Regs.set_l' (r : Reg8) : (c.set r v).l' = c.l' := by cases r <;> rfl
@[simp] theorem Regs.set_ix (r : Reg8) : (c.set r v).ix = c.ix := by cases r <;> rfl
@[simp] theorem Regs.set_iy (r : Reg8) : (c.set r v).iy = c.iy := by cases r <;> rfl
@[simp] theorem Regs.set_sp (r : Reg8) : (c.set r v).sp = c.sp := by cases r <;> rfl
@[simp] theorem Regs.set_pc (r : Reg8) : (c.set r v).pc = c.pc := by cases r <;> rfl
@[simp] theorem Regs.set_i (r : Reg8) : (c.set r v).i = c.i := by cases r <;> rfl
@[simp] theorem Regs.set_r (r : Reg8) : (c.set r v).r = c.r := by cases r <;> rfl
@[simp] theorem Regs.set_iff1 (r : Reg8) : (c.set r v).iff1 = c.iff1 := by cases r <;> rfl
@[simp] theorem Regs.set_iff2 (r : Reg8) : (c.set r v).iff2 = c.iff2 := by cases r <;> rfl
@[simp] theorem Regs.set_im (r : Reg8) : (c.set r v).im = c.im := by cases r <;> rfl
@[simp] theorem Regs.set_halted (r : Reg8) : (c.set r v).halted = c.halted := by cases r <;> rfl
@[simp] theorem Regs.set_eiShadow (r : Reg8) : (c.set r v).eiShadow = c.eiShadow := by
  cases r <;> rfl

/-! ### Pairs -/

@[simp] theorem Regs.bc_setBC : (c.setBC w).bc = w := pair_hi_lo w
@[simp] theorem Regs.de_setDE : (c.setDE w).de = w := pair_hi_lo w
@[simp] theorem Regs.hl_setHL : (c.setHL w).hl = w := pair_hi_lo w
@[simp] theorem Regs.af_setAF : (c.setAF w).af = w := pair_hi_lo w

@[simp] theorem Regs.getPair_setPair (p : Pair) : (c.setPair p w).getPair p = w := by
  cases p <;> simp [Regs.setPair, Regs.getPair]

@[simp] theorem Regs.getStackPair_setStackPair (q : StackPair) :
    (c.setStackPair q w).getStackPair q = w := by
  cases q <;> simp [Regs.setStackPair, Regs.getStackPair]

/-! ### Index registers -/

@[simp] theorem Regs.getIdx_setIdx (x : Idx) : (c.setIdx x w).getIdx x = w := by cases x <;> rfl

theorem Regs.getIdx_setIdx_other {x y : Idx} (h : y ≠ x) :
    (c.setIdx x w).getIdx y = c.getIdx y := by
  cases x <;> cases y <;> first | rfl | exact absurd rfl h

@[simp] theorem Regs.getHalf_setHalf (x : Idx) (h : Half) : (c.setHalf x h v).getHalf x h = v := by
  cases h <;> simp [Regs.setHalf, Regs.getHalf]

end Sys2Proof.Machine
end

