-- ==== Sys2Proof/Laws/Shift.lean ====
section
/-! SUPPORT. Rotates, digits and single bits as arithmetic. -/

namespace Sys2Proof.Machine

/-- A left shift by one. -/
theorem shiftLeft_toNat (v : Byte) (b : Bool) :
    (shiftLeft v b).toNat = 2 * (v.toNat % 128) + b.toNat := by
  have h : ∀ (v : Byte) (b : Bool), (shiftLeft v b).toNat = 2 * (v.toNat % 128) + b.toNat := by
    decide
  exact h v b

/-- A right shift by one. -/
theorem shiftRight_toNat (v : Byte) (b : Bool) :
    (shiftRight b v).toNat = v.toNat / 2 + 128 * b.toNat := by
  have h : ∀ (v : Byte) (b : Bool), (shiftRight b v).toNat = v.toNat / 2 + 128 * b.toNat := by
    decide
  exact h v b

/-- The top bit as a number. -/
theorem topBit_toNat (v : Byte) : (v.getLsbD 7).toNat = v.toNat / 128 := by
  have h : ∀ v : Byte, (v.getLsbD 7).toNat = v.toNat / 128 := by decide
  exact h v

/-- The bottom bit as a number. -/
theorem bottomBit_toNat (v : Byte) : (v.getLsbD 0).toNat = v.toNat % 2 := by
  have h : ∀ v : Byte, (v.getLsbD 0).toNat = v.toNat % 2 := by decide
  exact h v

/-- The table of R375. -/
theorem rot_spec (op : RotOp) (v : Byte) (cin : Bool) :
    Rotated op v cin (rot op v cin).1 (rot op v cin).2 := by
  cases op <;> refine ⟨?_, rfl⟩ <;>
    simp [rot, shiftLeft_toNat, shiftRight_toNat, -BitVec.toNat_ofBool] <;>
    first | exact topBit_toNat v | exact bottomBit_toNat v

/-- Two digits in a byte. -/
theorem digits_toNat (x y : BitVec 4) : (x ++ y : Byte).toNat = 16 * x.toNat + y.toNat := by
  have h : ∀ x y : BitVec 4, (x ++ y : Byte).toNat = 16 * x.toNat + y.toNat := by decide
  exact h x y

theorem digitLow_toNat (v : Byte) : (digitLow v).toNat = v.toNat % 16 := by
  have h : ∀ v : Byte, (digitLow v).toNat = v.toNat % 16 := by decide
  exact h v

theorem digitHigh_toNat (v : Byte) : (digitHigh v).toNat = v.toNat / 16 := by
  have h : ∀ v : Byte, (digitHigh v).toNat = v.toNat / 16 := by decide
  exact h v

/-- SET changes bit `b` alone (R403). -/
theorem setBit_getLsbD (v : Byte) (b : Fin 8) (k : Nat) :
    (setBit v b).getLsbD k = (decide (k = b.val) || v.getLsbD k) := by
  have hb := b.isLt
  by_cases hk : k < 8
  · simp only [setBit, bitMask, BitVec.getLsbD_or, BitVec.getLsbD_shiftLeft, hk, decide_true,
      Bool.true_and]
    by_cases h : k = b.val <;> simp [h]
    omega
  · rw [BitVec.getLsbD_of_ge _ _ (by omega), BitVec.getLsbD_of_ge _ _ (by omega)]
    simp
    omega

/-- RES changes bit `b` alone (R404). -/
theorem resetBit_getLsbD (v : Byte) (b : Fin 8) (k : Nat) :
    (resetBit v b).getLsbD k = (!decide (k = b.val) && v.getLsbD k) := by
  have hb := b.isLt
  by_cases hk : k < 8
  · simp only [resetBit, bitMask, BitVec.getLsbD_and, BitVec.getLsbD_not, BitVec.getLsbD_shiftLeft,
      hk, decide_true, Bool.true_and]
    by_cases h : k = b.val <;> simp [h]
    omega
  · rw [BitVec.getLsbD_of_ge _ _ (by omega), BitVec.getLsbD_of_ge _ _ (by omega)]
    simp

end Sys2Proof.Machine
end

