-- ==== Sys2Proof/Laws/Exec.lean ====
section
/-! SUPPORT. What an instruction can do outside the registers, said once for the whole of `exec`:
one that accesses no port changes no device, and one that does changes them as its port access
does. -/

namespace Sys2Proof.Machine

/-- What an instruction without a port access leaves alone, and what it keeps: it may change the
registers, memory through the router, the keyboard by reads, the outputs, the clock forward and the
draw counter. -/
structure Keeps (s t : State) : Prop where
  lat : t.lat = s.lat
  modeImage : t.modeImage = s.modeImage
  romSize : t.romSize = s.romSize
  nextTimer : t.nextTimer = s.nextTimer
  fault : t.fault = s.fault
  events : t.events = s.events
  seqNo : t.seqNo = s.seqNo
  fdc : t.fdc = s.fdc
  drv : t.drv = s.drv
  cas : t.cas = s.cas
  running : t.running = s.running
  breakpoints : t.breakpoints = s.breakpoints
  skipBreak : t.skipBreak = s.skipBreak
  shutDown : t.shutDown = s.shutDown
  inbox : t.inbox = s.inbox
  cfg : t.cfg = s.cfg
  clock : s.clock ≤ t.clock
  memWf : s.mem.wf = true → t.mem.wf = true
  initedWf : initedWf s.inited = true → initedWf t.inited = true
  rom : ∀ n, n < s.romSize → t.mem.get n = s.mem.get n
  keys : s.kbd.Legends → t.kbd.Legends

variable {s t u : State}

theorem Keeps.refl (s : State) : Keeps s s :=
  ⟨rfl, rfl, rfl, rfl, rfl, rfl, rfl, rfl, rfl, rfl, rfl, rfl, rfl, rfl, rfl, rfl, le_refl _, id, id,
    fun _ _ => rfl, id⟩

theorem Keeps.trans (h : Keeps s t) (k : Keeps t u) : Keeps s u where
  lat := k.lat.trans h.lat
  modeImage := k.modeImage.trans h.modeImage
  romSize := k.romSize.trans h.romSize
  nextTimer := k.nextTimer.trans h.nextTimer
  fault := k.fault.trans h.fault
  events := k.events.trans h.events
  seqNo := k.seqNo.trans h.seqNo
  fdc := k.fdc.trans h.fdc
  drv := k.drv.trans h.drv
  cas := k.cas.trans h.cas
  running := k.running.trans h.running
  breakpoints := k.breakpoints.trans h.breakpoints
  skipBreak := k.skipBreak.trans h.skipBreak
  shutDown := k.shutDown.trans h.shutDown
  inbox := k.inbox.trans h.inbox
  cfg := k.cfg.trans h.cfg
  clock := le_trans h.clock k.clock
  memWf := k.memWf ∘ h.memWf
  initedWf := k.initedWf ∘ h.initedWf
  rom n hn := (k.rom n (h.romSize ▸ hn)).trans (h.rom n hn)
  keys := k.keys ∘ h.keys

/-! ### The keyboard matrix -/

/-- An activity on a cell with a legend keeps the cells without one clear. -/
theorem Keyboard.Legends.apply {kb : Keyboard} (h : kb.Legends) {k : KeyActivity}
    (hk : hasLegend k.row k.bit = true) (now : Nat) : (kb.apply k now).Legends where
  rows i j hij := by
    have ne : ¬(k.row = i ∧ k.bit = j) := by
      rintro ⟨rfl, rfl⟩
      rw [hk] at hij
      cases hij
    have hrow : (kb.apply k now).rows = kb.rows.set k.row
        (if k.pressed then setBit kb.rows[k.row] k.bit else resetBit kb.rows[k.row] k.bit) := rfl
    rw [hrow]
    by_cases hi : k.row = i
    · subst hi
      have hj : ¬j.val = k.bit.val := fun e => ne ⟨rfl, Fin.ext e.symm⟩
      have hr := h.rows _ _ hij
      have h1 := setBit_getLsbD kb.rows[k.row] k.bit j
      have h0 := resetBit_getLsbD kb.rows[k.row] k.bit j
      simp only [hj, hr, decide_false, Bool.false_or, Bool.and_false] at h1 h0
      cases k.pressed
      · simpa using h0
      · simpa using h1
    · have : ¬k.row.val = i.val := fun e => hi (Fin.ext e)
      simpa [Vector.getElem_set, this] using h.rows i j hij
  queue := h.queue

theorem Keyboard.Legends.keyDequeue (h : s.kbd.Legends) : s.keyDequeue.kbd.Legends := by
  unfold State.keyDequeue
  split
  · exact h
  · rename_i k rest hq
    split
    · have hk := h.queue k (by simp [hq])
      have hr : ({ s.kbd with queue := rest } : Keyboard).Legends :=
        ⟨h.rows, fun x hx => h.queue x (by simp [hq, hx])⟩
      exact hr.apply hk _
    · exact h

theorem Keyboard.Legends.afterRead (h : s.kbd.Legends) (a : Word) : (s.afterRead a).kbd.Legends := by
  unfold State.afterRead
  split
  · exact h.keyDequeue
  all_goals exact h

/-- Positions 0 to 26 and 32 to 57 of the matrix have legends. -/
theorem keyCellAt_legend {n : Nat} (h : n < 27 ∨ 32 ≤ n ∧ n < 58) :
    hasLegend (Fin.ofNat 8 (n / 8)) (Fin.ofNat 8 (n % 8)) = true := by
  have all : ∀ m : Fin 58, m.val < 27 ∨ 32 ≤ m.val →
      hasLegend (Fin.ofNat 8 (m.val / 8)) (Fin.ofNat 8 (m.val % 8)) = true := by decide
  exact all ⟨n, by omega⟩ (by simp only; omega)

/-- A host key queues an activity on a cell with a legend, or none. -/
theorem HostKey.toCell_legend {k : HostKey} {row bit : Fin 8} {f : ShiftForce}
    (h : k.toCell = some (row, bit, f)) : hasLegend row bit = true := by
  cases k
  case ascii code =>
    change asciiCell code.toNat = _ at h
    unfold asciiCell at h
    split_ifs at h
    all_goals
      cases h
      exact keyCellAt_legend (by omega)
  case cell r b g =>
    change (if hasLegend r b then some (r, b, g) else none) = _ at h
    split at h
    · cases h
      assumption
    · cases h
  all_goals
    simp only [HostKey.toCell, Option.some.injEq, Prod.mk.injEq] at h
    obtain ⟨rfl, rfl, -⟩ := h
    decide

theorem Keyboard.Legends.keyAction (h : s.kbd.Legends) (k : HostKey) (pressed : Bool) :
    (s.keyAction k pressed).kbd.Legends := by
  unfold State.keyAction
  split
  · exact h
  · rename_i row bit force hk
    refine ⟨h.rows, fun x hx => ?_⟩
    rcases List.mem_append.1 hx with hx | hx
    · exact h.queue x hx
    · obtain rfl := List.mem_singleton.1 hx
      exact HostKey.toCell_legend hk

theorem Keyboard.Legends.cleared : Keyboard.cleared.Legends := ⟨by decide, by decide⟩

/-! ### The shared operations -/

/-- Registers, the clock forward and the draw counter. -/
theorem keeps_plain (s : State) (c : Regs) (n d : Nat) :
    Keeps s { s with cpu := c, clock := s.clock + n, drawNo := d } :=
  ⟨rfl, rfl, rfl, rfl, rfl, rfl, rfl, rfl, rfl, rfl, rfl, rfl, rfl, rfl, rfl, rfl,
    Nat.le_add_right _ _, id, id, fun _ _ => rfl, id⟩

theorem keeps_cpu (s : State) (c : Regs) : Keeps s { s with cpu := c } :=
  ⟨rfl, rfl, rfl, rfl, rfl, rfl, rfl, rfl, rfl, rfl, rfl, rfl, rfl, rfl, rfl, rfl, le_refl _, id, id,
    fun _ _ => rfl, id⟩

theorem keeps_half (s : State) (x : Idx) (h : Half) (v : Byte) : Keeps s (s.setHalf x h v) :=
  keeps_cpu s _

theorem keeps_tick (s : State) (n : Nat) : Keeps s (s.tick n) :=
  ⟨rfl, rfl, rfl, rfl, rfl, rfl, rfl, rfl, rfl, rfl, rfl, rfl, rfl, rfl, rfl, rfl,
    Nat.le_add_right _ _, id, id, fun _ _ => rfl, id⟩

theorem keeps_draw (s : State) (f : Flags) (m : Byte) : Keeps s (s.setFlagsDraw f m) :=
  ⟨rfl, rfl, rfl, rfl, rfl, rfl, rfl, rfl, rfl, rfl, rfl, rfl, rfl, rfl, rfl, rfl, le_refl _, id, id,
    fun _ _ => rfl, id⟩

theorem keeps_read (s : State) (a : Word) : Keeps s (s.afterRead a) where
  lat := by simp
  modeImage := by simp
  romSize := by simp
  nextTimer := by simp
  fault := by simp
  events := by simp
  seqNo := by simp
  fdc := by simp
  drv := by simp
  cas := by simp
  running := by simp
  breakpoints := by simp
  skipBreak := by simp
  shutDown := by simp
  inbox := by simp
  cfg := by simp
  clock := by simp
  memWf := by simp
  initedWf := by simp
  rom := by simp
  keys h := h.afterRead a

theorem keeps_readWord (s : State) (a : Word) : Keeps s (s.afterReadWord a) :=
  (keeps_read s a).trans (keeps_read _ _)

theorem keeps_memWrite (s : State) (a : Word) (v : Byte) : Keeps s (s.memWrite a v) where
  lat := by simp
  modeImage := by simp
  romSize := by simp
  nextTimer := by simp
  fault := by simp
  events := by simp
  seqNo := by simp
  fdc := by simp
  drv := by simp
  cas := by simp
  running := by simp
  breakpoints := by simp
  skipBreak := by simp
  shutDown := by simp
  inbox := by simp
  cfg := by simp
  clock := by simp
  memWf := State.memWrite_wf s v
  initedWf := State.memWrite_initedWf s v
  rom _ := State.memWrite_rom s a v
  keys := by simp

theorem keeps_memWriteWord (s : State) (a w : Word) : Keeps s (s.memWriteWord a w) :=
  (keeps_memWrite s a _).trans (keeps_memWrite _ _ _)

theorem keeps_push (s : State) (w : Word) : Keeps s (s.push w) :=
  ((keeps_cpu s _).trans (keeps_memWrite _ _ _)).trans
    ((keeps_cpu _ _).trans (keeps_memWrite _ _ _))

theorem keeps_afterPop (s : State) : Keeps s s.afterPop :=
  (keeps_readWord s _).trans (keeps_cpu _ _)

theorem keeps_leaveHandler (s : State) : Keeps s s.leaveHandler :=
  ((keeps_afterPop s).trans (keeps_cpu _ _)).trans (keeps_cpu _ _)

theorem keeps_enterHandler (s : State) (v : Word) (b : Bool) : Keeps s (s.enterHandler v b) := by
  have h : Keeps s s.afterHaltTest := by
    unfold State.afterHaltTest
    split
    · exact .refl _
    · exact keeps_read _ _
  exact (((h.trans (keeps_cpu _ _)).trans (keeps_cpu _ _)).trans (keeps_push _ _)).trans
    (keeps_cpu _ _)

theorem keeps_alu (s : State) (op : AluOp) (v : Byte) : Keeps s (s.alu op v) := by
  cases op
  case cp => exact keeps_draw _ _ _
  all_goals exact keeps_cpu _ _

theorem keeps_aluAt (s : State) (op : AluOp) (a : Word) : Keeps s (s.aluAt op a) :=
  (keeps_read s a).trans (keeps_alu _ _ _)

theorem keeps_repeatIf (s : State) (b : Bool) : Keeps s (s.repeatIf b) := by
  cases b
  · exact keeps_tick _ _
  · exact (keeps_cpu _ _).trans (keeps_tick _ _)

theorem keeps_ldBody (s : State) (w : Word) : Keeps s (s.ldBody w) :=
  (((keeps_read s _).trans (keeps_memWrite _ _ _)).trans (keeps_cpu _ _)).trans (keeps_draw _ _ _)

theorem keeps_cpBody (s : State) (w : Word) : Keeps s (s.cpBody w) :=
  ((keeps_read s _).trans (keeps_cpu _ _)).trans (keeps_draw _ _ _)

theorem keeps_loadReg (s : State) (r : Reg8) (a : Word) : Keeps s (s.loadReg r a) :=
  (keeps_read s a).trans (keeps_cpu _ _)

theorem keeps_loadPair (s : State) (p : Pair) (a : Word) : Keeps s (s.loadPair p a) :=
  (keeps_readWord s a).trans (keeps_cpu _ _)

theorem keeps_swapTop (s : State) (w : Word) : Keeps s (s.swapTop w) :=
  (keeps_readWord s _).trans (keeps_memWriteWord _ _ _)

theorem keeps_refreshRead (s : State) : Keeps s s.afterRefreshRead := by
  unfold State.afterRefreshRead
  split
  · exact ⟨rfl, rfl, rfl, rfl, rfl, rfl, rfl, rfl, rfl, rfl, rfl, rfl, rfl, rfl, rfl, rfl, le_refl _,
      id, id, fun _ _ => rfl, id⟩
  · exact .refl _

theorem keeps_modifyAt (s : State) (a : Word) (f : Byte → Byte) : Keeps s (s.modifyAt a f) :=
  (keeps_read s a).trans (keeps_memWrite _ _ _)

theorem keeps_incAt (s : State) (a : Word) : Keeps s (s.incAt a) :=
  ((keeps_read s a).trans (keeps_memWrite _ _ _)).trans (keeps_cpu _ _)

theorem keeps_decAt (s : State) (a : Word) : Keeps s (s.decAt a) :=
  ((keeps_read s a).trans (keeps_memWrite _ _ _)).trans (keeps_cpu _ _)

theorem keeps_rotAt (s : State) (op : RotOp) (a : Word) : Keeps s (s.rotAt op a) :=
  ((keeps_read s a).trans (keeps_memWrite _ _ _)).trans (keeps_cpu _ _)

theorem keeps_rotAtCopy (s : State) (op : RotOp) (a : Word) (r : Reg8) :
    Keeps s (s.rotAtCopy op a r) :=
  (((keeps_read s a).trans (keeps_memWrite _ _ _)).trans (keeps_cpu _ _)).trans (keeps_cpu _ _)

theorem keeps_rotDigits (s : State) (m a : Byte) : Keeps s (s.rotDigits m a) :=
  (((keeps_read s _).trans (keeps_memWrite _ _ _)).trans (keeps_cpu _ _)).trans (keeps_cpu _ _)

theorem keeps_bitAtIdx (s : State) (b : Fin 8) (x : Idx) (d : Byte) : Keeps s (s.bitAtIdx b x d) :=
  (keeps_read s _).trans (keeps_draw _ _ _)

theorem keeps_setReg (s : State) (r : Reg8) (v : Byte) : Keeps s (s.setReg r v) := keeps_cpu s _
theorem keeps_setCpu (s : State) (c : Regs) : Keeps s (s.setCpu c) := keeps_cpu s _
theorem keeps_setPC (s : State) (w : Word) : Keeps s (s.setPC w) := keeps_cpu s _
theorem keeps_setSP (s : State) (w : Word) : Keeps s (s.setSP w) := keeps_cpu s _
theorem keeps_setIdx (s : State) (x : Idx) (w : Word) : Keeps s (s.setIdx x w) := keeps_cpu s _
theorem keeps_setIM (s : State) (m : IntMode) : Keeps s (s.setIM m) := keeps_cpu s _
theorem keeps_setFlags (s : State) (f : Flags) : Keeps s (s.setFlags f) := keeps_cpu s _
theorem keeps_setFlagsUndoc (s : State) (f : Flags) (m : Byte) : Keeps s (s.setFlagsUndoc f m) :=
  keeps_draw s _ _
theorem keeps_jumpRel (s : State) (e : Byte) : Keeps s (s.jumpRel e) := keeps_cpu s _
theorem keeps_call (s : State) (w : Word) : Keeps s (s.call w) :=
  (keeps_push _ _).trans (keeps_cpu _ _)
theorem keeps_popPC (s : State) : Keeps s s.popPC := (keeps_afterPop _).trans (keeps_cpu _ _)
theorem keeps_incReg (s : State) (r : Reg8) : Keeps s (s.incReg r) :=
  (keeps_setReg _ _ _).trans (keeps_setFlags _ _)
theorem keeps_decReg (s : State) (r : Reg8) : Keeps s (s.decReg r) :=
  (keeps_setReg _ _ _).trans (keeps_setFlags _ _)
theorem keeps_incHalf (s : State) (x : Idx) (h : Half) : Keeps s (s.incHalf x h) :=
  (keeps_half _ _ _ _).trans (keeps_setFlags _ _)
theorem keeps_decHalf (s : State) (x : Idx) (h : Half) : Keeps s (s.decHalf x h) :=
  (keeps_half _ _ _ _).trans (keeps_setFlags _ _)
theorem keeps_negA (s : State) : Keeps s s.negA :=
  (keeps_setReg _ _ _).trans (keeps_setFlags _ _)
theorem keeps_rotA (s : State) (op : RotOp) : Keeps s (s.rotA op) :=
  (keeps_setReg _ _ _).trans (keeps_setFlags _ _)
theorem keeps_rotReg (s : State) (op : RotOp) (r : Reg8) : Keeps s (s.rotReg op r) :=
  (keeps_setReg _ _ _).trans (keeps_setFlags _ _)
theorem keeps_addIdx (s : State) (x : Idx) (p : IdxPair) : Keeps s (s.addIdx x p) :=
  (keeps_setIdx _ _ _).trans (keeps_setFlagsUndoc _ _ _)
theorem keeps_loadAFlags (s : State) (v : Byte) : Keeps s (s.loadAFlags v) :=
  (keeps_setReg _ _ _).trans (keeps_setFlags _ _)
theorem keeps_modifyAtCopy (s : State) (a : Word) (r : Reg8) (f : Byte → Byte) :
    Keeps s (s.modifyAtCopy a r f) :=
  (keeps_modifyAt _ _ _).trans (keeps_setReg _ _ _)

/-! ### exec -/

/-- An instruction without a port access completes, and keeps what `Keeps` says. -/
theorem exec_keeps (i : Instr) (s : State) (h : usesPort i = false) :
    ∃ t, exec i s = .next t ∧ Keeps s t := by
  cases i
  case jpCCNN cc nn =>
    refine ⟨_, rfl, ?_⟩
    split
    · exact (keeps_cpu _ _).trans (keeps_tick _ _)
    · exact keeps_tick _ _
  case jrJCCE cc e =>
    refine ⟨_, rfl, ?_⟩
    split
    · exact (keeps_cpu _ _).trans (keeps_tick _ _)
    · exact keeps_tick _ _
  case djnzE e =>
    refine ⟨_, rfl, ?_⟩
    split
    · exact (keeps_cpu _ _).trans (keeps_tick _ _)
    · exact ((keeps_cpu _ _).trans (keeps_cpu _ _)).trans (keeps_tick _ _)
  case callCCNN cc nn =>
    refine ⟨_, rfl, ?_⟩
    split
    · exact ((keeps_push _ _).trans (keeps_cpu _ _)).trans (keeps_tick _ _)
    · exact keeps_tick _ _
  case retCC cc =>
    refine ⟨_, rfl, ?_⟩
    split
    · exact ((keeps_afterPop _).trans (keeps_cpu _ _)).trans (keeps_tick _ _)
    · exact keeps_tick _ _
  case ldir => exact ⟨_, rfl, (keeps_ldBody _ _).trans (keeps_repeatIf _ _)⟩
  case lddr => exact ⟨_, rfl, (keeps_ldBody _ _).trans (keeps_repeatIf _ _)⟩
  case cpir => exact ⟨_, rfl, (keeps_cpBody _ _).trans (keeps_repeatIf _ _)⟩
  case cpdr => exact ⟨_, rfl, (keeps_cpBody _ _).trans (keeps_repeatIf _ _)⟩
  all_goals first
    | exact Bool.noConfusion h
    | refine ⟨_, rfl, Keeps.trans ?_ (keeps_tick _ _)⟩
  all_goals try simp only [
    keeps_setReg, keeps_alu, keeps_aluAt, keeps_loadReg, keeps_memWrite, keeps_memWriteWord,
    keeps_half, keeps_incReg, keeps_decReg, keeps_incHalf, keeps_decHalf, keeps_incAt,
    keeps_decAt, keeps_rotA, keeps_rotReg, keeps_rotAt, keeps_rotAtCopy, keeps_rotDigits,
    keeps_modifyAt, keeps_modifyAtCopy, keeps_bitAtIdx, keeps_setFlagsUndoc, keeps_setCpu,
    keeps_setPC, keeps_setSP, keeps_setIdx, keeps_setIM, keeps_addIdx, keeps_negA,
    keeps_loadPair, keeps_push, keeps_call, keeps_popPC, keeps_jumpRel, keeps_leaveHandler,
    keeps_ldBody, keeps_cpBody, keeps_loadAFlags, Keeps.refl]
  case addHLSS => exact (keeps_setCpu _ _).trans (keeps_setFlagsUndoc _ _ _)
  case adcHLSS => exact (keeps_setCpu _ _).trans (keeps_setFlagsUndoc _ _ _)
  case sbcHLSS => exact (keeps_setCpu _ _).trans (keeps_setFlagsUndoc _ _ _)
  case popQQ => exact (keeps_afterPop _).trans (keeps_setCpu _ _)
  case popIX => exact (keeps_afterPop _).trans (keeps_setIdx _ _ _)
  case popIY => exact (keeps_afterPop _).trans (keeps_setIdx _ _ _)
  case bitBAtHL => exact (keeps_read _ _).trans (keeps_draw _ _ _)
  case ldIXAtNN => exact (keeps_readWord _ _).trans (keeps_setIdx _ _ _)
  case ldIYAtNN => exact (keeps_readWord _ _).trans (keeps_setIdx _ _ _)
  case daa => exact (keeps_setReg _ _ _).trans (keeps_setFlags _ _)
  case cpl => exact (keeps_setReg _ _ _).trans (keeps_setFlags _ _)
  case exAtSPHL => exact (keeps_swapTop _ _).trans (keeps_setCpu _ _)
  case exAtSPIX => exact (keeps_swapTop _ _).trans (keeps_setIdx _ _ _)
  case exAtSPIY => exact (keeps_swapTop _ _).trans (keeps_setIdx _ _ _)
  case ldARefresh => exact (keeps_refreshRead _).trans (keeps_loadAFlags _ _)

/-! ### The instructions that access a port -/

/-- A mapped operation that completes. -/
theorem map_ok {α β : Type} {f : α → β} {x : Except Fault α} {y : β} (h : x.map f = .ok y) :
    ∃ v, x = .ok v ∧ f v = y := by
  cases x with
  | error e => cases h
  | ok v => exact ⟨v, rfl, by injection h⟩

/-- A finished operation that completes. -/
theorem finish_next {x : Except Fault State} (h : finish x = .next t) : x = .ok t := by
  cases x with
  | error e => cases h
  | ok v =>
    injection h with h
    rw [h]

/-- `t` comes from `s` by one port access, before and after which only what `Keeps` allows
happens. -/
def PortAccess (s t : State) : Prop :=
  ∃ u v, Keeps s u ∧ Keeps v t ∧
    ((∃ port w, u.ioRead port = .ok (w, v)) ∨ (∃ port w, u.ioWrite port w = .ok v))

theorem PortAccess.keeps (h : PortAccess s t) (k : Keeps t u) : PortAccess s u := by
  obtain ⟨a, b, h1, h2, h3⟩ := h
  exact ⟨a, b, h1, h2.trans k, h3⟩

theorem inBody_access {w : Word} {c : Byte} (h : s.inBody w c = .ok t) : PortAccess s t := by
  obtain ⟨⟨v, u⟩, hu, rfl⟩ := map_ok h
  exact ⟨s, u, .refl s, ((keeps_memWrite _ _ _).trans (keeps_setCpu _ _)).trans
    (keeps_setFlagsUndoc _ _ _), .inl ⟨_, v, hu⟩⟩

theorem outBody_access {w : Word} (h : s.outBody w = .ok t) : PortAccess s t := by
  obtain ⟨u, hu, rfl⟩ := map_ok h
  exact ⟨_, u, (keeps_setReg s _ _).trans (keeps_read _ _),
    (keeps_setCpu _ _).trans (keeps_setFlagsUndoc _ _ _), .inr ⟨_, _, hu⟩⟩

/-- An instruction that accesses a port and completes does so by one access. -/
theorem exec_port {i : Instr} (h : usesPort i = true) (he : exec i s = .next t) :
    PortAccess s t := by
  cases i
  case inAAtN n =>
    obtain ⟨⟨v, u⟩, hu, rfl⟩ := map_ok (finish_next he)
    exact ⟨s, u, .refl s, (keeps_setReg _ _ _).trans (keeps_tick _ _), .inl ⟨_, v, hu⟩⟩
  case inRAtC r =>
    obtain ⟨⟨v, u⟩, hu, rfl⟩ := map_ok (finish_next he)
    exact ⟨s, u, .refl s, ((keeps_setReg _ _ _).trans (keeps_setFlags _ _)).trans (keeps_tick _ _),
      .inl ⟨_, v, hu⟩⟩
  case inFAtC =>
    obtain ⟨⟨v, u⟩, hu, rfl⟩ := map_ok (finish_next he)
    exact ⟨s, u, .refl s, (keeps_setFlags _ _).trans (keeps_tick _ _), .inl ⟨_, v, hu⟩⟩
  case outAtNA n =>
    obtain ⟨u, hu, rfl⟩ := map_ok (finish_next he)
    exact ⟨s, u, .refl s, keeps_tick _ _, .inr ⟨_, _, hu⟩⟩
  case outAtCR r =>
    obtain ⟨u, hu, rfl⟩ := map_ok (finish_next he)
    exact ⟨s, u, .refl s, keeps_tick _ _, .inr ⟨_, _, hu⟩⟩
  case outAtC0 =>
    obtain ⟨u, hu, rfl⟩ := map_ok (finish_next he)
    exact ⟨s, u, .refl s, keeps_tick _ _, .inr ⟨_, _, hu⟩⟩
  case ini =>
    obtain ⟨u, hu, rfl⟩ := map_ok (finish_next he)
    exact (inBody_access hu).keeps (keeps_tick _ _)
  case inir =>
    obtain ⟨u, hu, rfl⟩ := map_ok (finish_next he)
    exact (inBody_access hu).keeps (keeps_repeatIf _ _)
  case ind =>
    obtain ⟨u, hu, rfl⟩ := map_ok (finish_next he)
    exact (inBody_access hu).keeps (keeps_tick _ _)
  case indr =>
    obtain ⟨u, hu, rfl⟩ := map_ok (finish_next he)
    exact (inBody_access hu).keeps (keeps_repeatIf _ _)
  case outi =>
    obtain ⟨u, hu, rfl⟩ := map_ok (finish_next he)
    exact (outBody_access hu).keeps (keeps_tick _ _)
  case otir =>
    obtain ⟨u, hu, rfl⟩ := map_ok (finish_next he)
    exact (outBody_access hu).keeps (keeps_repeatIf _ _)
  case outd =>
    obtain ⟨u, hu, rfl⟩ := map_ok (finish_next he)
    exact (outBody_access hu).keeps (keeps_tick _ _)
  case otdr =>
    obtain ⟨u, hu, rfl⟩ := map_ok (finish_next he)
    exact (outBody_access hu).keeps (keeps_repeatIf _ _)
  all_goals exact Bool.noConfusion h

/-- What an instruction that completes can do outside the registers. -/
theorem exec_next {i : Instr} (he : exec i s = .next t) : Keeps s t ∨ PortAccess s t := by
  cases h : usesPort i
  · obtain ⟨u, hu, k⟩ := exec_keeps i s h
    rw [hu] at he
    injection he with he
    exact .inl (he ▸ k)
  · exact .inr (exec_port h he)

end Sys2Proof.Machine
end

