-- ==== Sys2Proof/Laws/Events.lean ====
section
/-! SUPPORT. The event queue: the order, insertion and cancellation, and what the dispatch leaves. -/

namespace Sys2Proof.Machine

variable {s t : State}

/-! ### The order (R560) -/

theorem Event.before_iff (x y : Event) :
    x.before y = true ↔ x.fireClock < y.fireClock ∨ (x.fireClock = y.fireClock ∧ x.seq < y.seq) := by
  simp [Event.before]

theorem Event.before_trans {x y z : Event} (h : x.before y = true) (k : y.before z = true) :
    x.before z = true := by
  rw [Event.before_iff] at *
  omega

/-- Between entries with different sequence numbers the order is total. -/
theorem Event.before_of_not {x y : Event} (h : x.before y = false) (hs : x.seq ≠ y.seq) :
    y.before x = true := by
  have h' : ¬x.before y = true := by simp [h]
  rw [Event.before_iff] at *
  omega

/-! ### Insertion (R561) -/

theorem insertEvent_perm (e : Event) (l : List Event) : (insertEvent e l).Perm (e :: l) := by
  induction l with
  | nil => exact .refl _
  | cons x l ih =>
    unfold insertEvent
    split
    · exact .refl _
    · exact (ih.cons x).trans (.swap e x l)

theorem mem_insertEvent {e x : Event} {l : List Event} : x ∈ insertEvent e l ↔ x = e ∨ x ∈ l := by
  rw [(insertEvent_perm e l).mem_iff, List.mem_cons]

theorem insertEvent_sorted {e : Event} {l : List Event}
    (h : l.Pairwise (fun x y => x.before y = true)) (hs : ∀ x ∈ l, x.seq ≠ e.seq) :
    (insertEvent e l).Pairwise (fun x y => x.before y = true) := by
  induction l with
  | nil => simp [insertEvent]
  | cons x l ih =>
    rw [List.pairwise_cons] at h
    unfold insertEvent
    split
    · rename_i hb
      refine List.pairwise_cons.2 ⟨fun y hy => ?_, List.pairwise_cons.2 h⟩
      rcases List.mem_cons.1 hy with rfl | hy
      · exact hb
      · exact Event.before_trans hb (h.1 y hy)
    · rename_i hb
      refine List.pairwise_cons.2 ⟨fun y hy => ?_, ih h.2 fun y hy => hs y (.tail _ hy)⟩
      rcases mem_insertEvent.1 hy with rfl | hy
      · exact Event.before_of_not (by simpa using hb) (Ne.symm (hs x (.head _)))
      · exact h.1 y hy

/-! ### The invariant of the queue -/

/-- The queue is sorted, its sequence numbers are used up, and kinds match actions (R560, R566). -/
structure QueueOk (events : List Event) (seqNo : Nat) : Prop where
  sorted : events.Pairwise (fun x y => x.before y = true)
  seqs : ∀ e ∈ events, e.seq < seqNo
  kinds : ∀ e ∈ events, e.kind = e.action.kind

theorem QueueOk.nil (n : Nat) : QueueOk [] n := ⟨.nil, by simp, by simp⟩

theorem QueueOk.schedule (h : QueueOk s.events s.seqNo) (d : Nat) (x : EventAction) :
    QueueOk (s.schedule x.kind d x).events (s.schedule x.kind d x).seqNo where
  sorted := insertEvent_sorted h.sorted fun e he => (h.seqs e he).ne
  seqs e he := by
    rcases mem_insertEvent.1 he with rfl | he
    · exact Nat.lt_succ_self _
    · exact Nat.lt_succ_of_lt (h.seqs e he)
  kinds e he := by
    rcases mem_insertEvent.1 he with rfl | he
    · rfl
    · exact h.kinds e he

theorem QueueOk.cancel (h : QueueOk s.events s.seqNo) (m : Byte) :
    QueueOk (s.cancel m).events (s.cancel m).seqNo where
  sorted := h.sorted.filter _
  seqs e he := h.seqs e (List.mem_of_mem_filter he)
  kinds e he := h.kinds e (List.mem_of_mem_filter he)

theorem QueueOk.tail {e : Event} {l : List Event} {n : Nat} (h : QueueOk (e :: l) n) :
    QueueOk l n :=
  ⟨(List.pairwise_cons.1 h.sorted).2, fun x hx => h.seqs x (.tail _ hx),
    fun x hx => h.kinds x (.tail _ hx)⟩

/-! ### The actions (R566) -/

theorem runAction_devices (s : State) (x : EventAction) : DevicesOnly s (s.runAction x) := by
  cases x
  · exact (setStatus_devices _ _).trans (raiseNmi_devices _ _)
  · exact ((setStatus_devices _ _).trans (fdc_devices _ _)).trans (raiseNmi_devices _ _)
  · exact (orStatus_devices _ _).trans (schedule_devices _ _ _ _)
  · unfold State.runAction State.kickOffAction
    dsimp only
    split
    · exact raiseIrq_devices _ _
    · exact .refl _

/-- Only the first DRQ adds to the queue: its LostData watchdog (R599). -/
theorem runAction_events (s : State) (x : EventAction) :
    (s.runAction x).events = s.events ∧ (s.runAction x).seqNo = s.seqNo ∨
      x = .firstDrq ∧
        (s.runAction x).events =
          insertEvent ⟨kindDiskLostData, s.clock + Config.lostDataDelay, s.seqNo, .lostData⟩
            s.events ∧
        (s.runAction x).seqNo = s.seqNo + 1 := by
  cases x
  · exact .inl ⟨rfl, rfl⟩
  · exact .inl ⟨rfl, rfl⟩
  · exact .inr ⟨rfl, rfl, rfl⟩
  · refine .inl ?_
    unfold State.runAction State.kickOffAction
    dsimp only
    split <;> exact ⟨rfl, rfl⟩

theorem QueueOk.runAction (h : QueueOk s.events s.seqNo) (x : EventAction) :
    QueueOk (s.runAction x).events (s.runAction x).seqNo := by
  rcases runAction_events s x with ⟨h1, h2⟩ | ⟨-, h1, h2⟩
  · rw [h1, h2]
    exact h
  · rw [h1, h2]
    exact h.schedule Config.lostDataDelay .lostData

/-! ### The dispatch (R562) -/

theorem events_devices (s : State) (l : List Event) : DevicesOnly s { s with events := l } :=
  ⟨rfl, rfl, rfl, rfl, rfl, rfl, rfl, rfl, rfl, rfl, rfl, rfl, rfl, rfl, rfl⟩

theorem dispatchN_devices (n : Nat) (s : State) : DevicesOnly s (State.dispatchN n s) := by
  induction n generalizing s with
  | zero => exact .refl s
  | succ n ih =>
    unfold State.dispatchN
    split
    · exact .refl s
    · split
      · refine DevicesOnly.trans ?_ (ih _)
        exact (events_devices s _).trans (runAction_devices _ _)
      · exact .refl s

theorem dispatch_devices (s : State) : DevicesOnly s s.dispatch := dispatchN_devices _ s

end Sys2Proof.Machine
end

