-- ==== Sys2Proof/Laws/Devices.lean ====
section
/-! SUPPORT. What every device operation keeps: the latch bits, the heads, the status bit and the
queue that the invariant speaks of. -/

namespace Sys2Proof.Machine

variable {s t : State}

/-! ### Latches -/

/-- The latch part of the invariant (R45, R46, R510, R511). -/
structure Latches.Ok (l : Latches) : Prop where
  resetBit : l.nmiMask.getLsbD 5 = true
  suppressed : l.nmiSeen = true → l.nmiMask &&& l.nmiLatch ≠ 0
  irqBits : l.irqLatch &&& 0xF8 = 0
  nmiBits : l.nmiLatch &&& 0x1F = 0

theorem or_mask {x y m : Byte} (h : x &&& m = 0) (k : y &&& m = 0) : (x ||| y) &&& m = 0 := by
  have e : (x ||| y) &&& m = (x &&& m) ||| (y &&& m) := by
    ext i
    simp [Bool.and_or_distrib_right]
  rw [e, h, k]
  rfl

theorem and_mask {x m : Byte} (y : Byte) (h : x &&& m = 0) : (x &&& y) &&& m = 0 := by
  have e : (x &&& y) &&& m = (x &&& m) &&& y := by
    ext i
    simp only [BitVec.getElem_and, Bool.and_right_comm]
  rw [e, h]
  exact BitVec.zero_and

@[simp] theorem Latches.nmiUpdate_irqMask (l : Latches) : l.nmiUpdate.irqMask = l.irqMask := by
  unfold Latches.nmiUpdate; split <;> rfl
@[simp] theorem Latches.nmiUpdate_irqLatch (l : Latches) : l.nmiUpdate.irqLatch = l.irqLatch := by
  unfold Latches.nmiUpdate; split <;> rfl
@[simp] theorem Latches.nmiUpdate_nmiMask (l : Latches) : l.nmiUpdate.nmiMask = l.nmiMask := by
  unfold Latches.nmiUpdate; split <;> rfl
@[simp] theorem Latches.nmiUpdate_nmiLatch (l : Latches) : l.nmiUpdate.nmiLatch = l.nmiLatch := by
  unfold Latches.nmiUpdate; split <;> rfl

/-- `NmiUpdate()` after a write of the NMI latch, in one formula (R512). -/
theorem Latches.nmiUpdate_withNmi (l : Latches) (v : Byte) :
    { l with nmiLatch := v }.nmiUpdate = l.withNmi v := by
  unfold Latches.nmiUpdate Latches.withNmi
  by_cases h : l.nmiMask &&& v = 0#8 <;> simp [h]

theorem raiseNmi_withNmi (s : State) (m : Byte) :
    s.raiseNmi m = { s with lat := s.lat.withNmi (s.lat.nmiLatch ||| m) } := by
  rw [State.raiseNmi, Latches.nmiUpdate_withNmi]

theorem clearNmi_withNmi (s : State) (m : Byte) :
    s.clearNmi m = { s with lat := s.lat.withNmi (s.lat.nmiLatch &&& ~~~m) } := by
  rw [State.clearNmi, Latches.nmiUpdate_withNmi]

/-- Clearing bits after another change of the latch is one change. -/
theorem Latches.withNmi_and (l : Latches) (v w : Byte) :
    (l.withNmi v).withNmi (v &&& w) = l.withNmi (v &&& w) := by
  unfold Latches.withNmi
  by_cases h : l.nmiMask &&& v = 0#8
  · have : l.nmiMask &&& (v &&& w) = 0#8 := by rw [← BitVec.and_assoc, h, BitVec.zero_and]
    simp [h, this]
  · simp [h]

/-- After NmiUpdate the suppressor is set only under a pending unmasked bit (R512). -/
theorem Latches.nmiUpdate_seen (l : Latches) (h : l.nmiUpdate.nmiSeen = true) :
    l.nmiMask &&& l.nmiLatch ≠ 0 := by
  unfold Latches.nmiUpdate at h
  split at h
  · simp at h
  · assumption

theorem Latches.Ok.update {l : Latches} (h1 : l.nmiMask.getLsbD 5 = true)
    (h2 : l.irqLatch &&& 0xF8 = 0) (h3 : l.nmiLatch &&& 0x1F = 0) : l.nmiUpdate.Ok where
  resetBit := by simpa using h1
  suppressed h := by simpa using l.nmiUpdate_seen h
  irqBits := by simpa using h2
  nmiBits := by simpa using h3

theorem Latches.Ok.raiseIrq (h : s.lat.Ok) {m : Byte} (hm : m &&& 0xF8 = 0) :
    (s.raiseIrq m).lat.Ok :=
  ⟨h.resetBit, h.suppressed, or_mask h.irqBits hm, h.nmiBits⟩

theorem Latches.Ok.clearIrq (h : s.lat.Ok) (m : Byte) : (s.clearIrq m).lat.Ok :=
  ⟨h.resetBit, h.suppressed, and_mask _ h.irqBits, h.nmiBits⟩

theorem Latches.Ok.raiseNmi (h : s.lat.Ok) {m : Byte} (hm : m &&& 0x1F = 0) :
    (s.raiseNmi m).lat.Ok :=
  .update h.resetBit h.irqBits (or_mask h.nmiBits hm)

theorem Latches.Ok.clearNmi (h : s.lat.Ok) (m : Byte) : (s.clearNmi m).lat.Ok :=
  .update h.resetBit h.irqBits (and_mask _ h.nmiBits)

theorem Latches.Ok.irqMask {l : Latches} (h : l.Ok) (v : Byte) : { l with irqMask := v }.Ok :=
  ⟨h.resetBit, h.suppressed, h.irqBits, h.nmiBits⟩

theorem Latches.Ok.nmiMask {l : Latches} (h : l.Ok) (v : Byte) :
    { l with nmiMask := v ||| 0x20 }.nmiUpdate.Ok :=
  .update (by rw [BitVec.getLsbD_or]; simp) h.irqBits h.nmiBits

theorem Latches.Ok.cleared : Latches.cleared.Ok := ⟨by decide, by decide, by decide, by decide⟩

/-! ### All devices -/

/-- The device part of the invariant. -/
structure DevOk (s : State) : Prop where
  lat : s.lat.Ok
  heads : ∀ d : Fin 4, s.drv[d].phys < Config.maxTracks
  ready : s.fdc.status.getLsbD 7 = false
  empty2 : s.drv[2].kind = .none
  empty3 : s.drv[3].kind = .none
  queue : QueueOk s.events s.seqNo

/-- The device part depends on five fields. -/
theorem DevOk.congr (h : DevOk s) (hl : t.lat = s.lat) (hd : t.drv = s.drv)
    (hs : t.fdc.status = s.fdc.status) (he : t.events = s.events) (hn : t.seqNo = s.seqNo) :
    DevOk t where
  lat := hl ▸ h.lat
  heads := hd ▸ h.heads
  ready := hs ▸ h.ready
  empty2 := hd ▸ h.empty2
  empty3 := hd ▸ h.empty3
  queue := by rw [he, hn]; exact h.queue

theorem DevOk.withLat (h : DevOk s) {l : Latches} (hl : l.Ok) : DevOk { s with lat := l } :=
  ⟨hl, h.heads, h.ready, h.empty2, h.empty3, h.queue⟩

theorem DevOk.raiseIrq (h : DevOk s) {m : Byte} (hm : m &&& 0xF8 = 0) : DevOk (s.raiseIrq m) :=
  h.withLat (h.lat.raiseIrq hm)

theorem DevOk.clearIrq (h : DevOk s) (m : Byte) : DevOk (s.clearIrq m) :=
  h.withLat (h.lat.clearIrq m)

theorem DevOk.raiseNmi (h : DevOk s) {m : Byte} (hm : m &&& 0x1F = 0) : DevOk (s.raiseNmi m) :=
  h.withLat (h.lat.raiseNmi hm)

theorem DevOk.clearNmi (h : DevOk s) (m : Byte) : DevOk (s.clearNmi m) :=
  h.withLat (h.lat.clearNmi m)

theorem DevOk.emit (h : DevOk s) (o : Output) : DevOk (s.emit o) := h.congr rfl rfl rfl rfl rfl

theorem DevOk.schedule (h : DevOk s) (d : Nat) (x : EventAction) :
    DevOk (s.schedule x.kind d x) :=
  ⟨h.lat, h.heads, h.ready, h.empty2, h.empty3, h.queue.schedule d x⟩

theorem DevOk.cancel (h : DevOk s) (m : Byte) : DevOk (s.cancel m) :=
  ⟨h.lat, h.heads, h.ready, h.empty2, h.empty3, h.queue.cancel m⟩

theorem DevOk.fdc (h : DevOk s) {f : Fdc} (hf : f.status.getLsbD 7 = false) :
    DevOk { s with fdc := f } :=
  ⟨h.lat, h.heads, hf, h.empty2, h.empty3, h.queue⟩

theorem DevOk.setStatus (h : DevOk s) {v : Byte} (hv : v.getLsbD 7 = false) :
    DevOk (s.setStatus v) := h.fdc hv

theorem DevOk.orStatus (h : DevOk s) {v : Byte} (hv : v.getLsbD 7 = false) :
    DevOk (s.orStatus v) :=
  h.fdc (by
    change (s.fdc.status ||| v).getLsbD 7 = false
    rw [BitVec.getLsbD_or, h.ready, hv]; rfl)

/-- A new controller record with the old status. -/
theorem DevOk.fdcSame (h : DevOk s) (f : Fdc) (hf : f.status = s.fdc.status) :
    DevOk { s with fdc := f } :=
  h.fdc (hf ▸ h.ready)

/-! ### The disk controller -/

theorem DevOk.setPhys (h : DevOk s) {p : Nat} (hp : p < Config.maxTracks) : DevOk (s.setPhys p) where
  lat := h.lat
  heads d := by
    by_cases hd : s.fdc.drive = d
    · subst hd
      simpa [State.setPhys] using hp
    · have : ¬s.fdc.drive.val = d.val := fun e => hd (Fin.ext e)
      simpa [State.setPhys, Vector.getElem_set, this] using h.heads d
  ready := h.ready
  empty2 := by
    by_cases hd : s.fdc.drive.val = 2
    · have e : s.fdc.drive = 2 := Fin.ext hd
      simp [State.setPhys, State.cur, e, h.empty2]
    · simpa [State.setPhys, Vector.getElem_set, hd] using h.empty2
  empty3 := by
    by_cases hd : s.fdc.drive.val = 3
    · have e : s.fdc.drive = 3 := Fin.ext hd
      simp [State.setPhys, State.cur, e, h.empty3]
    · simpa [State.setPhys, Vector.getElem_set, hd] using h.empty3
  queue := h.queue

theorem clampTrack_lt (p : Int) : clampTrack p < Config.maxTracks := by
  simp only [clampTrack, Config.maxTracks]
  omega

theorem DevOk.checkDiskMotorOff (h : DevOk s) : DevOk s.checkDiskMotorOff := by
  unfold State.checkDiskMotorOff
  split
  · refine DevOk.raiseNmi ?_ (by decide)
    refine DevOk.emit ?_ _
    exact h.fdcSame _ rfl
  · exact h

theorem DevOk.afterStatusRead (h : DevOk s) : DevOk s.afterStatusRead :=
  h.checkDiskMotorOff.clearNmi _

theorem and_bit7 {x : Byte} (y : Byte) (h : x.getLsbD 7 = false) : (x &&& y).getLsbD 7 = false := by
  rw [BitVec.getLsbD_and, h]; rfl

theorem or_bit7 {x y : Byte} (h : x.getLsbD 7 = false) (k : y.getLsbD 7 = false) :
    (x ||| y).getLsbD 7 = false := by
  rw [BitVec.getLsbD_or, h, k]; rfl

theorem DevOk.afterDataRead (h : DevOk s) : DevOk s.afterDataRead := by
  unfold State.afterDataRead
  split
  · dsimp only
    split
    · refine DevOk.schedule (DevOk.cancel (DevOk.setStatus ?_ (and_bit7 _ h.ready)) _) _ (.diskDone _)
      exact h.fdcSame _ rfl
    · exact h.fdcSame _ rfl
  · exact h

theorem DevOk.fdcSelect (h : DevOk s) (v : Byte) : DevOk (s.fdcSelect v) := by
  unfold State.fdcSelect
  have h1 : DevOk { s.clearNmi 0x40 with
      fdc := { (s.clearNmi 0x40).fdc with side := v.getLsbD 4, density := v.getLsbD 7 } } :=
    (h.clearNmi 0x40).fdcSame _ rfl
  split
  · exact h1
  · dsimp only
    have h2 : ∀ o, DevOk (State.emit { s.clearNmi 0x40 with
        fdc := { (s.clearNmi 0x40).fdc with side := v.getLsbD 4, density := v.getLsbD 7 } } o) :=
      fun o => h1.emit o
    split <;> split <;>
      first
        | exact ((h2 _).emit _).fdcSame _ rfl
        | exact (h2 _).fdcSame _ rfl
        | exact h1.fdcSame _ rfl

theorem DevOk.setStepDir (h : DevOk s) (d : StepDir) : DevOk (s.setStepDir d) := h.fdcSame _ rfl

theorem DevOk.restore (h : DevOk s) : DevOk s.restore :=
  (h.setPhys (by decide)).fdcSame _ rfl

theorem DevOk.seek (h : DevOk s) : DevOk s.seek := by
  unfold State.seek
  dsimp only
  split
  · exact ((h.setStepDir _).setPhys (clampTrack_lt _)).fdcSame _ rfl
  · split
    · exact ((h.setStepDir _).setPhys (clampTrack_lt _)).fdcSame _ rfl
    · exact (h.setPhys (clampTrack_lt _)).fdcSame _ rfl

theorem DevOk.stepBy (h : DevOk s) (d : StepDir) (u : Bool) : DevOk (s.stepBy d u) := by
  unfold State.stepBy
  dsimp only
  split
  · exact (h.setPhys (clampTrack_lt _)).fdcSame _ rfl
  · exact h.setPhys (clampTrack_lt _)

theorem DevOk.typeIMove (h : DevOk s) (c : Byte) : DevOk (s.typeIMove c) := by
  unfold State.typeIMove
  split
  · exact h.restore
  · exact h.seek
  · exact h.stepBy _ _
  · exact h.stepBy _ _
  · exact (h.setStepDir _).stepBy _ _
  · exact (h.setStepDir _).stepBy _ _
  · exact (h.setStepDir _).stepBy _ _

theorem DevOk.afterSearch (h : DevOk s) (r : Option Nat) : DevOk (s.afterSearch r) := by
  unfold State.afterSearch
  split
  · exact h.orStatus (by decide)
  · exact h

theorem DevOk.verify (h : DevOk s) : DevOk s.verify := by
  unfold State.verify
  split
  · split
    · exact h.orStatus (by decide)
    · split
      · exact h.orStatus (by decide)
      · exact h
  · dsimp only
    generalize s.searchSector none none = r
    cases r
    · exact h.afterSearch _
    · dsimp only
      split
      · exact (h.afterSearch _).orStatus (by decide)
      · exact h.afterSearch _

theorem DevOk.typeI (h : DevOk s) (c : Byte) : DevOk (s.typeI c) := by
  unfold State.typeI
  dsimp only
  have h2 : (stBusy ||| (if c.getLsbD 3 then stHeadLoaded else 0x00) |||
      (if (s.typeIMove c).cur.phys = 0 then stTrack0 else 0x00)).getLsbD 7 = false := by
    split <;> split <;> decide
  split
  · exact (((h.typeIMove c).setStatus h2).verify).schedule _ (.diskDone _)
  · exact ((h.typeIMove c).setStatus h2).schedule _ (.diskDone _)

theorem foundStatus_bit7 (dr : Drive) (i : Nat) : (dr.foundStatus i).getLsbD 7 = false := by
  unfold Drive.foundStatus
  split
  · split <;> split <;> decide
  · decide
  · decide

theorem DevOk.readSector (h : DevOk s) (c : Byte) : DevOk (s.readSector c) := by
  unfold State.readSector
  dsimp only
  generalize (s.setStatus 0x00).searchSector _ _ = r
  have h1 : DevOk (s.setStatus 0x00) := h.setStatus (by decide)
  cases r
  · exact (h1.afterSearch _).schedule _ (.diskDone _)
  · rename_i i
    have h2 := h1.afterSearch (some i)
    refine DevOk.schedule (DevOk.fdcSame (DevOk.setStatus h2 (foundStatus_bit7 _ _)) _ ?_) _ .firstDrq
    rfl

theorem DevOk.forceInterrupt (h : DevOk s) (c : Byte) : DevOk (s.forceInterrupt c) := by
  unfold State.forceInterrupt
  dsimp only
  have h1 : DevOk ((s.cancel kindDisk).setStatus 0x00) := (h.cancel _).setStatus (by decide)
  split
  · refine DevOk.raiseNmi ?_ (by decide)
    exact h1.fdcSame _ rfl
  · refine DevOk.clearNmi ?_ _
    exact h1.fdcSame _ rfl

theorem DevOk.fdcCommand (h : DevOk s) {c : Byte} (hc : s.fdcCommand c = .ok t) : DevOk t := by
  unfold State.fdcCommand at hc
  dsimp only at hc
  have h1 : DevOk { s.clearNmi 0x80 with fdc := { (s.clearNmi 0x80).fdc with command := c } } :=
    (h.clearNmi _).fdcSame _ rfl
  split at hc
  all_goals first
    | (injection hc with hc; subst hc; exact (h1.cancel _).typeI _)
    | (injection hc with hc; subst hc; exact (h1.cancel _).readSector _)
    | (injection hc with hc; subst hc; exact h1.forceInterrupt _)
    | cases hc

/-! ### The cassette and the router -/

theorem DevOk.withCas (h : DevOk s) (c : Cassette) : DevOk { s with cas := c } :=
  h.congr rfl rfl rfl rfl rfl

theorem DevOk.cassetteOpen (h : DevOk s) (ho : s.cassetteOpen = .ok t) : DevOk t := by
  unfold State.cassetteOpen at ho
  split at ho
  · injection ho with ho
    subst ho
    exact h.withCas _
  · split at ho
    · cases ho
    · injection ho with ho
      subst ho
      exact h.withCas _

theorem DevOk.scheduleKickOff (h : DevOk s) : DevOk s.scheduleKickOff := by
  unfold State.scheduleKickOff
  split
  · exact h
  · exact h.schedule _ .kickOff

theorem DevOk.cassetteMotor (h : DevOk s) {on : Bool} (ho : s.cassetteMotor on = .ok t) :
    DevOk t := by
  unfold State.cassetteMotor at ho
  split at ho
  · injection ho with ho
    subst ho
    exact h
  · dsimp only at ho
    have h1 : DevOk ({ s with cas := { s.cas with motor := on } }.emit (.motorLight (-1) on)) :=
      (h.withCas _).emit _
    split at ho
    · split at ho
      · obtain ⟨v, hv, rfl⟩ := map_ok ho
        exact (h1.cassetteOpen hv).scheduleKickOff
      · injection ho with ho
        subst ho
        exact h1.scheduleKickOff
    · injection ho with ho
      subst ho
      exact h1.withCas _

theorem DevOk.modeWrite (h : DevOk s) {v : Byte} (hm : s.modeWrite v = .ok t) : DevOk t := by
  obtain ⟨u, hu, rfl⟩ := map_ok hm
  have h1 : DevOk { s with modeImage := v } := h.congr rfl rfl rfl rfl rfl
  have h2 := h1.cassetteMotor hu
  split
  · exact h2
  · exact h2.emit _

theorem DevOk.ioRead (h : DevOk s) {port : Word} {v : Byte} (hr : s.ioRead port = .ok (v, t)) :
    DevOk t := by
  unfold State.ioRead State.unknownPortRead at hr
  dsimp only at hr
  split at hr <;> (try split at hr) <;>
    first
      | (cases hr; done)
      | (simp only [Except.ok.injEq, Prod.mk.injEq] at hr
         obtain ⟨-, rfl⟩ := hr
         first
           | exact h
           | exact h.clearIrq _
           | exact h.afterStatusRead
           | exact h.afterDataRead)

theorem DevOk.ioWrite (h : DevOk s) {port : Word} {v : Byte} (hw : s.ioWrite port v = .ok t) :
    DevOk t := by
  unfold State.ioWrite State.unknownPortWrite at hw
  dsimp only at hw
  split at hw
  case h_4 => exact h.modeWrite hw
  case h_5 => exact h.fdcCommand hw
  case h_11 =>
    injection hw with hw
    subst hw
    split
    · exact h.withCas _
    · exact h
  case h_12 =>
    split at hw
    · cases hw
    · injection hw with hw
      subst hw
      exact h
  all_goals
    injection hw with hw
    subst hw
    first
      | exact h
      | exact h.withLat (h.lat.irqMask _)
      | exact h.withLat (h.lat.nmiMask _)
      | exact h.fdcSame _ rfl
      | exact h.fdcSelect _

/-! ### exec and the stages after it -/

theorem DevOk.keeps (h : DevOk s) (k : Keeps s t) : DevOk t :=
  h.congr k.lat k.drv (by rw [k.fdc]) k.events k.seqNo

theorem DevOk.exec (h : DevOk s) {i : Instr} (he : exec i s = .next t) : DevOk t := by
  rcases exec_next he with k | ⟨u, v, k1, k2, ⟨p, w, hp⟩ | ⟨p, w, hp⟩⟩
  · exact h.keeps k
  · exact ((h.keeps k1).ioRead hp).keeps k2
  · exact ((h.keeps k1).ioWrite hp).keeps k2

theorem DevOk.diskDoneAction (h : DevOk s) (b : Byte) : DevOk (s.diskDoneAction b) := by
  unfold State.diskDoneAction
  exact DevOk.raiseNmi (DevOk.setStatus h (and_bit7 _ h.ready)) (by decide)

theorem DevOk.lostDataAction (h : DevOk s) : DevOk s.lostDataAction := by
  have hb : (s.fdc.status ||| stLostData).getLsbD 7 = false := or_bit7 h.ready (by decide)
  unfold State.lostDataAction
  refine DevOk.raiseNmi ?_ (by decide)
  exact h.fdc (and_bit7 _ hb)

theorem DevOk.firstDrqAction (h : DevOk s) : DevOk s.firstDrqAction := by
  unfold State.firstDrqAction
  exact (h.orStatus (by decide)).schedule _ .lostData

theorem DevOk.kickOffAction (h : DevOk s) : DevOk s.kickOffAction := by
  unfold State.kickOffAction
  split
  · exact h.raiseIrq (by decide)
  · exact h

theorem DevOk.runAction (h : DevOk s) : (x : EventAction) → DevOk (s.runAction x)
  | .diskDone b => h.diskDoneAction b
  | .lostData => h.lostDataAction
  | .firstDrq => h.firstDrqAction
  | .kickOff => h.kickOffAction

theorem DevOk.dispatchN (n : Nat) (h : DevOk s) : DevOk (State.dispatchN n s) := by
  induction n generalizing s with
  | zero => exact h
  | succ n ih =>
    unfold State.dispatchN
    split
    · exact h
    · rename_i e rest he
      split
      · have q : QueueOk rest s.seqNo := by
          have := h.queue
          rw [he] at this
          exact this.tail
        have h1 : DevOk { s with events := rest } :=
          ⟨h.lat, h.heads, h.ready, h.empty2, h.empty3, q⟩
        exact ih (h1.runAction _)
      · exact h

theorem DevOk.cassetteEdge (h : DevOk s) (v : Level) : DevOk (s.cassetteEdge v) := by
  by_cases e : v = s.cas.last
  · simp only [State.cassetteEdge, e, if_true]
    exact h.withCas _
  · have h1 : DevOk { s with cas := { s.cas with flipflop := true } } := h.withCas _
    cases v
    all_goals simp only [State.cassetteEdge, e, if_false]
    · exact h.withCas _
    · exact (DevOk.raiseIrq (m := 0x01) h1 (by decide)).withCas _
    · exact (DevOk.raiseIrq (m := 0x02) h1 (by decide)).withCas _

theorem DevOk.cassetteSample (h : DevOk s) (w : Word) : DevOk (s.cassetteSample w) :=
  (h.cassetteEdge _).withCas _

theorem DevOk.cassetteUpdate (h : DevOk s) : DevOk s.cassetteUpdate := by
  unfold State.cassetteUpdate
  split
  · generalize (List.take _ _) = l
    clear * - h
    induction l generalizing s with
    | nil => exact h
    | cons w l ih => exact ih (h.cassetteSample w)
  · exact h

theorem DevOk.timerCheck (h : DevOk s) : DevOk s.timerCheck := by
  unfold State.timerCheck
  split
  · exact ((h.raiseIrq (by decide)).checkDiskMotorOff).congr rfl rfl rfl rfl rfl
  · exact h

theorem DevOk.nmiEntry (h : DevOk s) (hp : s.lat.nmiPending = true) : DevOk s.nmiEntry := by
  have h1 : DevOk (s.enterHandler 0x0066 s.cpu.iff1) := h.keeps (keeps_enterHandler _ _ _)
  have hm : s.lat.nmiMask &&& s.lat.nmiLatch ≠ 0 := by
    intro e
    simp [Latches.nmiPending, e] at hp
  have h2 : DevOk { s.enterHandler 0x0066 s.cpu.iff1 with
      lat := { (s.enterHandler 0x0066 s.cpu.iff1).lat with nmiSeen := true } } := by
    refine h1.withLat ⟨h1.lat.resetBit, fun _ => ?_, h1.lat.irqBits, h1.lat.nmiBits⟩
    simpa using hm
  unfold State.nmiEntry
  dsimp only
  split
  · exact (h2.clearNmi _).congr rfl rfl rfl rfl rfl
  · exact h2.congr rfl rfl rfl rfl rfl

theorem DevOk.interruptCheck (h : DevOk s) (hi : s.interruptCheck = .ok t) : DevOk t := by
  obtain ⟨u, hu, rfl⟩ := map_ok hi
  refine DevOk.congr (s := u) ?_ rfl rfl rfl rfl rfl
  split at hu
  · rename_i hp
    injection hu with hu
    subst hu
    exact h.nmiEntry hp
  · split at hu
    · unfold State.irqEntry at hu
      split at hu
      · injection hu with hu
        subst hu
        exact (h.keeps (keeps_enterHandler _ _ _)).keeps (keeps_tick _ _)
      · cases hu
    · injection hu with hu
      subst hu
      exact h

/-! ### Host actions -/

theorem DevOk.withDrive (h : DevOk s) (d : Fin 2) {x : Drive} (hx : x.phys = s.drv[slot d].phys) :
    DevOk { s with drv := s.drv.set (slot d) x } where
  lat := h.lat
  heads e := by
    by_cases hd : slot d = e
    · subst hd
      have := h.heads (slot d)
      simpa [hx] using this
    · have : ¬(slot d).val = e.val := fun q => hd (Fin.ext q)
      simpa [Vector.getElem_set, this] using h.heads e
  ready := h.ready
  empty2 := by
    have : ¬(slot d).val = 2 := by have := d.isLt; simp only [slot]; omega
    simpa [Vector.getElem_set, this] using h.empty2
  empty3 := by
    have : ¬(slot d).val = 3 := by have := d.isLt; simp only [slot]; omega
    simpa [Vector.getElem_set, this] using h.empty3
  queue := h.queue

theorem mount_phys {dr x : Drive} {img : List Byte} (h : dr.mount img = some x) :
    x.phys = dr.phys := by
  unfold Drive.mount at h
  split at h
  · injection h with h
    rw [← h]
  · split at h
    · injection h with h
      rw [← h]
    · cases h

theorem deviceReset_drv (s : State) : s.deviceReset.drv = s.drv := by
  unfold State.deviceReset State.emitIf
  dsimp only
  split <;> split <;> split <;> rfl

theorem DevOk.deviceReset (h : DevOk s) : DevOk s.deviceReset where
  lat := .cleared
  heads := by rw [deviceReset_drv]; exact h.heads
  ready := by
    change Fdc.cleared.status.getLsbD 7 = false
    decide
  empty2 := by rw [deviceReset_drv]; exact h.empty2
  empty3 := by rw [deviceReset_drv]; exact h.empty3
  queue := .nil _

theorem DevOk.hostAction (h : DevOk s) {x : HostAction} (hx : s.hostAction x = .ok t) :
    DevOk t := by
  cases x
  case mountDisk d img =>
    simp only [State.hostAction, State.mountDisk] at hx
    split at hx
    · rename_i dr hd
      injection hx with hx
      subst hx
      exact h.withDrive d (mount_phys hd)
    · cases hx
  case unmountDisk d =>
    injection hx with hx
    subst hx
    exact h.withDrive d rfl
  case reset =>
    injection hx with hx
    subst hx
    exact (h.deviceReset.raiseNmi (by decide)).congr rfl rfl rfl rfl rfl
  case press k =>
    injection hx with hx
    subst hx
    unfold State.keyAction
    split <;> exact h.congr rfl rfl rfl rfl rfl
  case release k =>
    injection hx with hx
    subst hx
    unfold State.keyAction
    split <;> exact h.congr rfl rfl rfl rfl rfl
  case addBreakpoint pc =>
    injection hx with hx
    subst hx
    unfold State.addBreakpoint
    split <;> exact h.congr rfl rfl rfl rfl rfl
  all_goals
    injection hx with hx
    subst hx
    exact h.congr rfl rfl rfl rfl rfl

theorem DevOk.hostActions (l : List HostAction) (h : DevOk s) (hx : s.hostActions l = .ok t) :
    DevOk t := by
  induction l generalizing s with
  | nil =>
    injection hx with hx
    exact hx ▸ h
  | cons x l ih =>
    unfold State.hostActions at hx
    split at hx
    · injection hx with hx
      exact hx ▸ h
    · split at hx
      · rename_i u hu
        exact ih (h.hostAction hu) hx
      · cases hx

theorem DevOk.drainInbox (h : DevOk s) (hx : s.drainInbox = .ok t) : DevOk t := by
  unfold State.drainInbox at hx
  split at hx
  · injection hx with hx
    exact hx ▸ h
  · rename_i batch rest _
    have h1 : DevOk { s with inbox := rest } := h.congr rfl rfl rfl rfl rfl
    exact DevOk.hostActions _ h1 hx

end Sys2Proof.Machine
end

