-- ==== Sys2Proof/Laws/PerInstr.lean ====
section
/-! SUPPORT. The per-instruction family `CodeLength`: an instruction's encoding is one to four bytes
long (R140, R150). One lemma per constructor, each with the length its row of the opcode table
gives. -/

namespace Sys2Proof.Laws.CodeLength

/-- The encoding of `i` is one to four bytes long. -/
def Statement (i : Instr) : Prop := 1 ≤ (encode i).length ∧ (encode i).length ≤ 4

/-- From the exact length. -/
theorem ofLength {i : Instr} (n : Nat) (h : (encode i).length = n) (k : 1 ≤ n ∧ n ≤ 4) :
    Statement i := by
  subst h
  exact k

theorem nop : Statement .nop := ofLength 1 rfl (by decide)
theorem exAFAF' : Statement .exAFAF' := ofLength 1 rfl (by decide)
theorem djnzE (e : Byte) : Statement (.djnzE e) := ofLength 2 rfl (by decide)
theorem jrE (e : Byte) : Statement (.jrE e) := ofLength 2 rfl (by decide)
theorem jrJCCE (jcc : JCond) (e : Byte) : Statement (.jrJCCE jcc e) := ofLength 2 rfl (by decide)
theorem ldDDNN (p : Pair) (nn : Word) : Statement (.ldDDNN p nn) := ofLength 3 rfl (by decide)
theorem addHLSS (p : Pair) : Statement (.addHLSS p) := ofLength 1 rfl (by decide)
theorem ldAtBCA : Statement .ldAtBCA := ofLength 1 rfl (by decide)
theorem ldAAtBC : Statement .ldAAtBC := ofLength 1 rfl (by decide)
theorem ldAtDEA : Statement .ldAtDEA := ofLength 1 rfl (by decide)
theorem ldAAtDE : Statement .ldAAtDE := ofLength 1 rfl (by decide)
theorem ldAtNNHL (nn : Word) : Statement (.ldAtNNHL nn) := ofLength 3 rfl (by decide)
theorem ldHLAtNN (nn : Word) : Statement (.ldHLAtNN nn) := ofLength 3 rfl (by decide)
theorem ldAtNNA (nn : Word) : Statement (.ldAtNNA nn) := ofLength 3 rfl (by decide)
theorem ldAAtNN (nn : Word) : Statement (.ldAAtNN nn) := ofLength 3 rfl (by decide)
theorem incSS (p : Pair) : Statement (.incSS p) := ofLength 1 rfl (by decide)
theorem decSS (p : Pair) : Statement (.decSS p) := ofLength 1 rfl (by decide)
theorem incR (r : Reg8) : Statement (.incR r) := ofLength 1 rfl (by decide)
theorem incAtHL : Statement .incAtHL := ofLength 1 rfl (by decide)
theorem decR (r : Reg8) : Statement (.decR r) := ofLength 1 rfl (by decide)
theorem decAtHL : Statement .decAtHL := ofLength 1 rfl (by decide)
theorem ldRN (r : Reg8) (n : Byte) : Statement (.ldRN r n) := ofLength 2 rfl (by decide)
theorem ldAtHLN (n : Byte) : Statement (.ldAtHLN n) := ofLength 2 rfl (by decide)
theorem rlca : Statement .rlca := ofLength 1 rfl (by decide)
theorem rrca : Statement .rrca := ofLength 1 rfl (by decide)
theorem rla : Statement .rla := ofLength 1 rfl (by decide)
theorem rra : Statement .rra := ofLength 1 rfl (by decide)
theorem daa : Statement .daa := ofLength 1 rfl (by decide)
theorem cpl : Statement .cpl := ofLength 1 rfl (by decide)
theorem scf : Statement .scf := ofLength 1 rfl (by decide)
theorem ccf : Statement .ccf := ofLength 1 rfl (by decide)
theorem ldRR (rd : Reg8) (rs : Reg8) : Statement (.ldRR rd rs) := ofLength 1 rfl (by decide)
theorem ldRAtHL (r : Reg8) : Statement (.ldRAtHL r) := ofLength 1 rfl (by decide)
theorem ldAtHLR (r : Reg8) : Statement (.ldAtHLR r) := ofLength 1 rfl (by decide)
theorem halt : Statement .halt := ofLength 1 rfl (by decide)
theorem addAR (r : Reg8) : Statement (.addAR r) := ofLength 1 rfl (by decide)
theorem addAAtHL : Statement .addAAtHL := ofLength 1 rfl (by decide)
theorem addAN (n : Byte) : Statement (.addAN n) := ofLength 2 rfl (by decide)
theorem adcAR (r : Reg8) : Statement (.adcAR r) := ofLength 1 rfl (by decide)
theorem adcAAtHL : Statement .adcAAtHL := ofLength 1 rfl (by decide)
theorem adcAN (n : Byte) : Statement (.adcAN n) := ofLength 2 rfl (by decide)
theorem subR (r : Reg8) : Statement (.subR r) := ofLength 1 rfl (by decide)
theorem subAtHL : Statement .subAtHL := ofLength 1 rfl (by decide)
theorem subN (n : Byte) : Statement (.subN n) := ofLength 2 rfl (by decide)
theorem sbcAR (r : Reg8) : Statement (.sbcAR r) := ofLength 1 rfl (by decide)
theorem sbcAAtHL : Statement .sbcAAtHL := ofLength 1 rfl (by decide)
theorem sbcAN (n : Byte) : Statement (.sbcAN n) := ofLength 2 rfl (by decide)
theorem andR (r : Reg8) : Statement (.andR r) := ofLength 1 rfl (by decide)
theorem andAtHL : Statement .andAtHL := ofLength 1 rfl (by decide)
theorem andN (n : Byte) : Statement (.andN n) := ofLength 2 rfl (by decide)
theorem xorR (r : Reg8) : Statement (.xorR r) := ofLength 1 rfl (by decide)
theorem xorAtHL : Statement .xorAtHL := ofLength 1 rfl (by decide)
theorem xorN (n : Byte) : Statement (.xorN n) := ofLength 2 rfl (by decide)
theorem orR (r : Reg8) : Statement (.orR r) := ofLength 1 rfl (by decide)
theorem orAtHL : Statement .orAtHL := ofLength 1 rfl (by decide)
theorem orN (n : Byte) : Statement (.orN n) := ofLength 2 rfl (by decide)
theorem cpR (r : Reg8) : Statement (.cpR r) := ofLength 1 rfl (by decide)
theorem cpAtHL : Statement .cpAtHL := ofLength 1 rfl (by decide)
theorem cpN (n : Byte) : Statement (.cpN n) := ofLength 2 rfl (by decide)
theorem retCC (cc : Cond) : Statement (.retCC cc) := ofLength 1 rfl (by decide)
theorem popQQ (q : StackPair) : Statement (.popQQ q) := ofLength 1 rfl (by decide)
theorem ret : Statement .ret := ofLength 1 rfl (by decide)
theorem exx : Statement .exx := ofLength 1 rfl (by decide)
theorem jpHL : Statement .jpHL := ofLength 1 rfl (by decide)
theorem ldSPHL : Statement .ldSPHL := ofLength 1 rfl (by decide)
theorem jpCCNN (cc : Cond) (nn : Word) : Statement (.jpCCNN cc nn) := ofLength 3 rfl (by decide)
theorem jpNN (nn : Word) : Statement (.jpNN nn) := ofLength 3 rfl (by decide)
theorem outAtNA (n : Byte) : Statement (.outAtNA n) := ofLength 2 rfl (by decide)
theorem inAAtN (n : Byte) : Statement (.inAAtN n) := ofLength 2 rfl (by decide)
theorem exAtSPHL : Statement .exAtSPHL := ofLength 1 rfl (by decide)
theorem exDEHL : Statement .exDEHL := ofLength 1 rfl (by decide)
theorem di : Statement .di := ofLength 1 rfl (by decide)
theorem ei : Statement .ei := ofLength 1 rfl (by decide)
theorem callCCNN (cc : Cond) (nn : Word) : Statement (.callCCNN cc nn) := ofLength 3 rfl (by decide)
theorem pushQQ (q : StackPair) : Statement (.pushQQ q) := ofLength 1 rfl (by decide)
theorem callNN (nn : Word) : Statement (.callNN nn) := ofLength 3 rfl (by decide)
theorem rstP (t : Fin 8) : Statement (.rstP t) := ofLength 1 rfl (by decide)
theorem rlcR (r : Reg8) : Statement (.rlcR r) := ofLength 2 rfl (by decide)
theorem rlcAtHL : Statement .rlcAtHL := ofLength 2 rfl (by decide)
theorem rrcR (r : Reg8) : Statement (.rrcR r) := ofLength 2 rfl (by decide)
theorem rrcAtHL : Statement .rrcAtHL := ofLength 2 rfl (by decide)
theorem rlR (r : Reg8) : Statement (.rlR r) := ofLength 2 rfl (by decide)
theorem rlAtHL : Statement .rlAtHL := ofLength 2 rfl (by decide)
theorem rrR (r : Reg8) : Statement (.rrR r) := ofLength 2 rfl (by decide)
theorem rrAtHL : Statement .rrAtHL := ofLength 2 rfl (by decide)
theorem slaR (r : Reg8) : Statement (.slaR r) := ofLength 2 rfl (by decide)
theorem slaAtHL : Statement .slaAtHL := ofLength 2 rfl (by decide)
theorem sraR (r : Reg8) : Statement (.sraR r) := ofLength 2 rfl (by decide)
theorem sraAtHL : Statement .sraAtHL := ofLength 2 rfl (by decide)
theorem sllR (r : Reg8) : Statement (.sllR r) := ofLength 2 rfl (by decide)
theorem sllAtHL : Statement .sllAtHL := ofLength 2 rfl (by decide)
theorem srlR (r : Reg8) : Statement (.srlR r) := ofLength 2 rfl (by decide)
theorem srlAtHL : Statement .srlAtHL := ofLength 2 rfl (by decide)
theorem bitBR (b : Fin 8) (r : Reg8) : Statement (.bitBR b r) := ofLength 2 rfl (by decide)
theorem bitBAtHL (b : Fin 8) : Statement (.bitBAtHL b) := ofLength 2 rfl (by decide)
theorem resBR (b : Fin 8) (r : Reg8) : Statement (.resBR b r) := ofLength 2 rfl (by decide)
theorem resBAtHL (b : Fin 8) : Statement (.resBAtHL b) := ofLength 2 rfl (by decide)
theorem setBR (b : Fin 8) (r : Reg8) : Statement (.setBR b r) := ofLength 2 rfl (by decide)
theorem setBAtHL (b : Fin 8) : Statement (.setBAtHL b) := ofLength 2 rfl (by decide)
theorem inRAtC (r : Reg8) : Statement (.inRAtC r) := ofLength 2 rfl (by decide)
theorem inFAtC : Statement .inFAtC := ofLength 2 rfl (by decide)
theorem outAtCR (r : Reg8) : Statement (.outAtCR r) := ofLength 2 rfl (by decide)
theorem outAtC0 : Statement .outAtC0 := ofLength 2 rfl (by decide)
theorem sbcHLSS (p : Pair) : Statement (.sbcHLSS p) := ofLength 2 rfl (by decide)
theorem adcHLSS (p : Pair) : Statement (.adcHLSS p) := ofLength 2 rfl (by decide)
theorem ldAtNNDD (p : Pair) (nn : Word) : Statement (.ldAtNNDD p nn) := ofLength 4 rfl (by decide)
theorem ldDDAtNN (p : Pair) (nn : Word) : Statement (.ldDDAtNN p nn) := ofLength 4 rfl (by decide)
theorem neg : Statement .neg := ofLength 2 rfl (by decide)
theorem negMirror (y : Fin 8) : Statement (.negMirror y) := ofLength 2 rfl (by decide)
theorem retn : Statement .retn := ofLength 2 rfl (by decide)
theorem reti : Statement .reti := ofLength 2 rfl (by decide)
theorem retnMirror (y : Fin 8) : Statement (.retnMirror y) := ofLength 2 rfl (by decide)
theorem im0 : Statement .im0 := ofLength 2 rfl (by decide)
theorem im1 : Statement .im1 := ofLength 2 rfl (by decide)
theorem im2 : Statement .im2 := ofLength 2 rfl (by decide)
theorem im0Mirror (y : Fin 8) : Statement (.im0Mirror y) := ofLength 2 rfl (by decide)
theorem im1Mirror : Statement .im1Mirror := ofLength 2 rfl (by decide)
theorem im2Mirror : Statement .im2Mirror := ofLength 2 rfl (by decide)
theorem ldVectorA : Statement .ldVectorA := ofLength 2 rfl (by decide)
theorem ldRefreshA : Statement .ldRefreshA := ofLength 2 rfl (by decide)
theorem ldAVector : Statement .ldAVector := ofLength 2 rfl (by decide)
theorem ldARefresh : Statement .ldARefresh := ofLength 2 rfl (by decide)
theorem rrd : Statement .rrd := ofLength 2 rfl (by decide)
theorem rld : Statement .rld := ofLength 2 rfl (by decide)
theorem ldi : Statement .ldi := ofLength 2 rfl (by decide)
theorem cpi : Statement .cpi := ofLength 2 rfl (by decide)
theorem ini : Statement .ini := ofLength 2 rfl (by decide)
theorem outi : Statement .outi := ofLength 2 rfl (by decide)
theorem ldd : Statement .ldd := ofLength 2 rfl (by decide)
theorem cpd : Statement .cpd := ofLength 2 rfl (by decide)
theorem ind : Statement .ind := ofLength 2 rfl (by decide)
theorem outd : Statement .outd := ofLength 2 rfl (by decide)
theorem ldir : Statement .ldir := ofLength 2 rfl (by decide)
theorem cpir : Statement .cpir := ofLength 2 rfl (by decide)
theorem inir : Statement .inir := ofLength 2 rfl (by decide)
theorem otir : Statement .otir := ofLength 2 rfl (by decide)
theorem lddr : Statement .lddr := ofLength 2 rfl (by decide)
theorem cpdr : Statement .cpdr := ofLength 2 rfl (by decide)
theorem indr : Statement .indr := ofLength 2 rfl (by decide)
theorem otdr : Statement .otdr := ofLength 2 rfl (by decide)
theorem addIXPP (p : IdxPair) : Statement (.addIXPP p) := ofLength 2 rfl (by decide)
theorem ldIXNN (nn : Word) : Statement (.ldIXNN nn) := ofLength 4 rfl (by decide)
theorem ldAtNNIX (nn : Word) : Statement (.ldAtNNIX nn) := ofLength 4 rfl (by decide)
theorem ldIXAtNN (nn : Word) : Statement (.ldIXAtNN nn) := ofLength 4 rfl (by decide)
theorem incIX : Statement .incIX := ofLength 2 rfl (by decide)
theorem decIX : Statement .decIX := ofLength 2 rfl (by decide)
theorem incAtIXd (d : Byte) : Statement (.incAtIXd d) := ofLength 3 rfl (by decide)
theorem decAtIXd (d : Byte) : Statement (.decAtIXd d) := ofLength 3 rfl (by decide)
theorem ldAtIXdN (d : Byte) (n : Byte) : Statement (.ldAtIXdN d n) := ofLength 4 rfl (by decide)
theorem ldRAtIXd (r : Reg8) (d : Byte) : Statement (.ldRAtIXd r d) := ofLength 3 rfl (by decide)
theorem ldAtIXdR (r : Reg8) (d : Byte) : Statement (.ldAtIXdR r d) := ofLength 3 rfl (by decide)
theorem addAAtIXd (d : Byte) : Statement (.addAAtIXd d) := ofLength 3 rfl (by decide)
theorem addAHX : Statement .addAHX := ofLength 2 rfl (by decide)
theorem addALX : Statement .addALX := ofLength 2 rfl (by decide)
theorem adcAAtIXd (d : Byte) : Statement (.adcAAtIXd d) := ofLength 3 rfl (by decide)
theorem adcAHX : Statement .adcAHX := ofLength 2 rfl (by decide)
theorem adcALX : Statement .adcALX := ofLength 2 rfl (by decide)
theorem subAtIXd (d : Byte) : Statement (.subAtIXd d) := ofLength 3 rfl (by decide)
theorem subHX : Statement .subHX := ofLength 2 rfl (by decide)
theorem subLX : Statement .subLX := ofLength 2 rfl (by decide)
theorem sbcAAtIXd (d : Byte) : Statement (.sbcAAtIXd d) := ofLength 3 rfl (by decide)
theorem sbcAHX : Statement .sbcAHX := ofLength 2 rfl (by decide)
theorem sbcALX : Statement .sbcALX := ofLength 2 rfl (by decide)
theorem andAtIXd (d : Byte) : Statement (.andAtIXd d) := ofLength 3 rfl (by decide)
theorem andHX : Statement .andHX := ofLength 2 rfl (by decide)
theorem andLX : Statement .andLX := ofLength 2 rfl (by decide)
theorem xorAtIXd (d : Byte) : Statement (.xorAtIXd d) := ofLength 3 rfl (by decide)
theorem xorHX : Statement .xorHX := ofLength 2 rfl (by decide)
theorem xorLX : Statement .xorLX := ofLength 2 rfl (by decide)
theorem orAtIXd (d : Byte) : Statement (.orAtIXd d) := ofLength 3 rfl (by decide)
theorem orHX : Statement .orHX := ofLength 2 rfl (by decide)
theorem orLX : Statement .orLX := ofLength 2 rfl (by decide)
theorem cpAtIXd (d : Byte) : Statement (.cpAtIXd d) := ofLength 3 rfl (by decide)
theorem cpHX : Statement .cpHX := ofLength 2 rfl (by decide)
theorem cpLX : Statement .cpLX := ofLength 2 rfl (by decide)
theorem popIX : Statement .popIX := ofLength 2 rfl (by decide)
theorem exAtSPIX : Statement .exAtSPIX := ofLength 2 rfl (by decide)
theorem pushIX : Statement .pushIX := ofLength 2 rfl (by decide)
theorem jpIX : Statement .jpIX := ofLength 2 rfl (by decide)
theorem ldSPIX : Statement .ldSPIX := ofLength 2 rfl (by decide)
theorem incHX : Statement .incHX := ofLength 2 rfl (by decide)
theorem decHX : Statement .decHX := ofLength 2 rfl (by decide)
theorem ldHXN (n : Byte) : Statement (.ldHXN n) := ofLength 3 rfl (by decide)
theorem incLX : Statement .incLX := ofLength 2 rfl (by decide)
theorem decLX : Statement .decLX := ofLength 2 rfl (by decide)
theorem ldLXN (n : Byte) : Statement (.ldLXN n) := ofLength 3 rfl (by decide)
theorem ldRHX (r : Reg8) : Statement (.ldRHX r) := ofLength 2 rfl (by decide)
theorem ldRLX (r : Reg8) : Statement (.ldRLX r) := ofLength 2 rfl (by decide)
theorem ldHXR (r : Reg8) : Statement (.ldHXR r) := ofLength 2 rfl (by decide)
theorem ldLXR (r : Reg8) : Statement (.ldLXR r) := ofLength 2 rfl (by decide)
theorem ldHXHX : Statement .ldHXHX := ofLength 2 rfl (by decide)
theorem ldHXLX : Statement .ldHXLX := ofLength 2 rfl (by decide)
theorem ldLXHX : Statement .ldLXHX := ofLength 2 rfl (by decide)
theorem ldLXLX : Statement .ldLXLX := ofLength 2 rfl (by decide)
theorem rlcAtIXd (d : Byte) : Statement (.rlcAtIXd d) := ofLength 4 rfl (by decide)
theorem rrcAtIXd (d : Byte) : Statement (.rrcAtIXd d) := ofLength 4 rfl (by decide)
theorem rlAtIXd (d : Byte) : Statement (.rlAtIXd d) := ofLength 4 rfl (by decide)
theorem rrAtIXd (d : Byte) : Statement (.rrAtIXd d) := ofLength 4 rfl (by decide)
theorem slaAtIXd (d : Byte) : Statement (.slaAtIXd d) := ofLength 4 rfl (by decide)
theorem sraAtIXd (d : Byte) : Statement (.sraAtIXd d) := ofLength 4 rfl (by decide)
theorem sllAtIXd (d : Byte) : Statement (.sllAtIXd d) := ofLength 4 rfl (by decide)
theorem srlAtIXd (d : Byte) : Statement (.srlAtIXd d) := ofLength 4 rfl (by decide)
theorem rotAtIXdR (o : RotOp) (d : Byte) (r : Reg8) : Statement (.rotAtIXdR o d r) :=
  ofLength 4 rfl (by decide)
theorem bitBAtIXd (b : Fin 8) (d : Byte) : Statement (.bitBAtIXd b d) := ofLength 4 rfl (by decide)
theorem resBAtIXd (b : Fin 8) (d : Byte) : Statement (.resBAtIXd b d) := ofLength 4 rfl (by decide)
theorem setBAtIXd (b : Fin 8) (d : Byte) : Statement (.setBAtIXd b d) := ofLength 4 rfl (by decide)
theorem bitBAtIXdMirror (b : Fin 8) (d : Byte) (r : Reg8) : Statement (.bitBAtIXdMirror b d r) :=
  ofLength 4 rfl (by decide)
theorem resBAtIXdR (b : Fin 8) (d : Byte) (r : Reg8) : Statement (.resBAtIXdR b d r) :=
  ofLength 4 rfl (by decide)
theorem setBAtIXdR (b : Fin 8) (d : Byte) (r : Reg8) : Statement (.setBAtIXdR b d r) :=
  ofLength 4 rfl (by decide)
theorem addIYRR (p : IdxPair) : Statement (.addIYRR p) := ofLength 2 rfl (by decide)
theorem ldIYNN (nn : Word) : Statement (.ldIYNN nn) := ofLength 4 rfl (by decide)
theorem ldAtNNIY (nn : Word) : Statement (.ldAtNNIY nn) := ofLength 4 rfl (by decide)
theorem ldIYAtNN (nn : Word) : Statement (.ldIYAtNN nn) := ofLength 4 rfl (by decide)
theorem incIY : Statement .incIY := ofLength 2 rfl (by decide)
theorem decIY : Statement .decIY := ofLength 2 rfl (by decide)
theorem incAtIYd (d : Byte) : Statement (.incAtIYd d) := ofLength 3 rfl (by decide)
theorem decAtIYd (d : Byte) : Statement (.decAtIYd d) := ofLength 3 rfl (by decide)
theorem ldAtIYdN (d : Byte) (n : Byte) : Statement (.ldAtIYdN d n) := ofLength 4 rfl (by decide)
theorem ldRAtIYd (r : Reg8) (d : Byte) : Statement (.ldRAtIYd r d) := ofLength 3 rfl (by decide)
theorem ldAtIYdR (r : Reg8) (d : Byte) : Statement (.ldAtIYdR r d) := ofLength 3 rfl (by decide)
theorem addAAtIYd (d : Byte) : Statement (.addAAtIYd d) := ofLength 3 rfl (by decide)
theorem addAHY : Statement .addAHY := ofLength 2 rfl (by decide)
theorem addALY : Statement .addALY := ofLength 2 rfl (by decide)
theorem adcAAtIYd (d : Byte) : Statement (.adcAAtIYd d) := ofLength 3 rfl (by decide)
theorem adcAHY : Statement .adcAHY := ofLength 2 rfl (by decide)
theorem adcALY : Statement .adcALY := ofLength 2 rfl (by decide)
theorem subAtIYd (d : Byte) : Statement (.subAtIYd d) := ofLength 3 rfl (by decide)
theorem subHY : Statement .subHY := ofLength 2 rfl (by decide)
theorem subLY : Statement .subLY := ofLength 2 rfl (by decide)
theorem sbcAAtIYd (d : Byte) : Statement (.sbcAAtIYd d) := ofLength 3 rfl (by decide)
theorem sbcAHY : Statement .sbcAHY := ofLength 2 rfl (by decide)
theorem sbcALY : Statement .sbcALY := ofLength 2 rfl (by decide)
theorem andAtIYd (d : Byte) : Statement (.andAtIYd d) := ofLength 3 rfl (by decide)
theorem andHY : Statement .andHY := ofLength 2 rfl (by decide)
theorem andLY : Statement .andLY := ofLength 2 rfl (by decide)
theorem xorAtIYd (d : Byte) : Statement (.xorAtIYd d) := ofLength 3 rfl (by decide)
theorem xorHY : Statement .xorHY := ofLength 2 rfl (by decide)
theorem xorLY : Statement .xorLY := ofLength 2 rfl (by decide)
theorem orAtIYd (d : Byte) : Statement (.orAtIYd d) := ofLength 3 rfl (by decide)
theorem orHY : Statement .orHY := ofLength 2 rfl (by decide)
theorem orLY : Statement .orLY := ofLength 2 rfl (by decide)
theorem cpAtIYd (d : Byte) : Statement (.cpAtIYd d) := ofLength 3 rfl (by decide)
theorem cpHY : Statement .cpHY := ofLength 2 rfl (by decide)
theorem cpLY : Statement .cpLY := ofLength 2 rfl (by decide)
theorem popIY : Statement .popIY := ofLength 2 rfl (by decide)
theorem exAtSPIY : Statement .exAtSPIY := ofLength 2 rfl (by decide)
theorem pushIY : Statement .pushIY := ofLength 2 rfl (by decide)
theorem jpIY : Statement .jpIY := ofLength 2 rfl (by decide)
theorem ldSPIY : Statement .ldSPIY := ofLength 2 rfl (by decide)
theorem incHY : Statement .incHY := ofLength 2 rfl (by decide)
theorem decHY : Statement .decHY := ofLength 2 rfl (by decide)
theorem ldHYN (n : Byte) : Statement (.ldHYN n) := ofLength 3 rfl (by decide)
theorem incLY : Statement .incLY := ofLength 2 rfl (by decide)
theorem decLY : Statement .decLY := ofLength 2 rfl (by decide)
theorem ldLYN (n : Byte) : Statement (.ldLYN n) := ofLength 3 rfl (by decide)
theorem ldRHY (r : Reg8) : Statement (.ldRHY r) := ofLength 2 rfl (by decide)
theorem ldRLY (r : Reg8) : Statement (.ldRLY r) := ofLength 2 rfl (by decide)
theorem ldHYR (r : Reg8) : Statement (.ldHYR r) := ofLength 2 rfl (by decide)
theorem ldLYR (r : Reg8) : Statement (.ldLYR r) := ofLength 2 rfl (by decide)
theorem ldHYHY : Statement .ldHYHY := ofLength 2 rfl (by decide)
theorem ldHYLY : Statement .ldHYLY := ofLength 2 rfl (by decide)
theorem ldLYHY : Statement .ldLYHY := ofLength 2 rfl (by decide)
theorem ldLYLY : Statement .ldLYLY := ofLength 2 rfl (by decide)
theorem rlcAtIYd (d : Byte) : Statement (.rlcAtIYd d) := ofLength 4 rfl (by decide)
theorem rrcAtIYd (d : Byte) : Statement (.rrcAtIYd d) := ofLength 4 rfl (by decide)
theorem rlAtIYd (d : Byte) : Statement (.rlAtIYd d) := ofLength 4 rfl (by decide)
theorem rrAtIYd (d : Byte) : Statement (.rrAtIYd d) := ofLength 4 rfl (by decide)
theorem slaAtIYd (d : Byte) : Statement (.slaAtIYd d) := ofLength 4 rfl (by decide)
theorem sraAtIYd (d : Byte) : Statement (.sraAtIYd d) := ofLength 4 rfl (by decide)
theorem sllAtIYd (d : Byte) : Statement (.sllAtIYd d) := ofLength 4 rfl (by decide)
theorem srlAtIYd (d : Byte) : Statement (.srlAtIYd d) := ofLength 4 rfl (by decide)
theorem rotAtIYdR (o : RotOp) (d : Byte) (r : Reg8) : Statement (.rotAtIYdR o d r) :=
  ofLength 4 rfl (by decide)
theorem bitBAtIYd (b : Fin 8) (d : Byte) : Statement (.bitBAtIYd b d) := ofLength 4 rfl (by decide)
theorem resBAtIYd (b : Fin 8) (d : Byte) : Statement (.resBAtIYd b d) := ofLength 4 rfl (by decide)
theorem setBAtIYd (b : Fin 8) (d : Byte) : Statement (.setBAtIYd b d) := ofLength 4 rfl (by decide)
theorem bitBAtIYdMirror (b : Fin 8) (d : Byte) (r : Reg8) : Statement (.bitBAtIYdMirror b d r) :=
  ofLength 4 rfl (by decide)
theorem resBAtIYdR (b : Fin 8) (d : Byte) (r : Reg8) : Statement (.resBAtIYdR b d r) :=
  ofLength 4 rfl (by decide)
theorem setBAtIYdR (b : Fin 8) (d : Byte) (r : Reg8) : Statement (.setBAtIYdR b d r) :=
  ofLength 4 rfl (by decide)

end Sys2Proof.Laws.CodeLength
end

