-- ==== Sys2Proof/Laws/Step.lean ====
section
/-! SUPPORT. What a whole step keeps outside the devices: ROM, the parameters, the canonical forms,
the keyboard cells without a legend, and that the clock does not go back. -/

namespace Sys2Proof.Machine

variable {s t u : State}

/-- What every stage of a step keeps or moves forward. -/
structure Onward (s t : State) : Prop where
  romSize : t.romSize = s.romSize
  cfg : t.cfg = s.cfg
  clock : s.clock ≤ t.clock
  memWf : s.mem.wf = true → t.mem.wf = true
  initedWf : initedWf s.inited = true → initedWf t.inited = true
  rom : ∀ n, n < s.romSize → t.mem.get n = s.mem.get n
  keys : s.kbd.Legends → t.kbd.Legends

theorem Onward.of_eq (hr : t.romSize = s.romSize) (hc : t.cfg = s.cfg) (hk : t.clock = s.clock)
    (hm : t.mem = s.mem) (hi : t.inited = s.inited) (hb : t.kbd = s.kbd) : Onward s t :=
  ⟨hr, hc, hk.ge, by rw [hm]; exact id, by rw [hi]; exact id, fun n _ => by rw [hm],
    by rw [hb]; exact id⟩

theorem Onward.refl (s : State) : Onward s s := .of_eq rfl rfl rfl rfl rfl rfl

theorem Onward.trans (h : Onward s t) (k : Onward t u) : Onward s u where
  romSize := k.romSize.trans h.romSize
  cfg := k.cfg.trans h.cfg
  clock := le_trans h.clock k.clock
  memWf := k.memWf ∘ h.memWf
  initedWf := k.initedWf ∘ h.initedWf
  rom n hn := (k.rom n (h.romSize ▸ hn)).trans (h.rom n hn)
  keys := k.keys ∘ h.keys

theorem Keeps.onward (h : Keeps s t) : Onward s t :=
  ⟨h.romSize, h.cfg, h.clock, h.memWf, h.initedWf, h.rom, h.keys⟩

theorem DevicesOnly.onward (h : DevicesOnly s t) : Onward s t :=
  .of_eq h.romSize h.cfg h.clock h.mem h.inited h.kbd

theorem Onward.exec {i : Instr} (he : exec i s = .next t) : Onward s t := by
  rcases exec_next he with k | ⟨u, v, k1, k2, ⟨p, w, hp⟩ | ⟨p, w, hp⟩⟩
  · exact k.onward
  · exact (k1.onward.trans (ioRead_devices hp).onward).trans k2.onward
  · exact (k1.onward.trans (ioWrite_devices hp).onward).trans k2.onward

theorem Onward.nmiEntry (s : State) : Onward s s.nmiEntry := by
  refine (keeps_enterHandler s 0x0066 s.cpu.iff1).onward.trans ?_
  unfold State.nmiEntry
  dsimp only
  generalize s.enterHandler 0x0066 s.cpu.iff1 = u
  split
  · exact ⟨rfl, rfl, Nat.le_add_right _ _, id, id, fun _ _ => rfl, id⟩
  · exact ⟨rfl, rfl, Nat.le_add_right _ _, id, id, fun _ _ => rfl, id⟩

theorem Onward.interruptCheck (hi : s.interruptCheck = .ok t) : Onward s t := by
  obtain ⟨u, hu, rfl⟩ := map_ok hi
  refine Onward.trans (t := u) ?_ (.of_eq rfl rfl rfl rfl rfl rfl)
  split at hu
  · injection hu with hu
    exact hu ▸ .nmiEntry s
  · split at hu
    · unfold State.irqEntry at hu
      split at hu
      · injection hu with hu
        subst hu
        exact ((keeps_enterHandler _ _ _).trans (keeps_tick _ _)).onward
      · cases hu
    · injection hu with hu
      exact hu ▸ .refl s

theorem Onward.cassetteSample (s : State) (w : Word) : Onward s (s.cassetteSample w) := by
  unfold State.cassetteSample State.cassetteEdge
  generalize classify w = v
  by_cases e : v = s.cas.last
  · simp only [e, if_true]
    exact .of_eq rfl rfl rfl rfl rfl rfl
  · cases v
    all_goals
      simp only [e, if_false]
      exact .of_eq rfl rfl rfl rfl rfl rfl

theorem Onward.cassetteUpdate (s : State) : Onward s s.cassetteUpdate := by
  unfold State.cassetteUpdate
  split
  · generalize (List.take _ _) = l
    clear * -
    induction l generalizing s with
    | nil => exact .refl s
    | cons w l ih => exact (Onward.cassetteSample s w).trans (ih _)
  · exact .refl s

theorem Onward.timerCheck (s : State) : Onward s s.timerCheck := by
  unfold State.timerCheck State.checkDiskMotorOff
  split
  · dsimp only
    split
    · exact .of_eq rfl rfl rfl rfl rfl rfl
    · exact .of_eq rfl rfl rfl rfl rfl rfl
  · exact .refl s

theorem Onward.deviceReset (s : State) : Onward s s.deviceReset := by
  unfold State.deviceReset State.emitIf
  dsimp only
  split <;> split <;> split <;>
    exact ⟨rfl, rfl, le_refl _, id, id, fun _ _ => rfl, fun _ => .cleared⟩

theorem Onward.keyAction (s : State) (k : HostKey) (pressed : Bool) :
    Onward s (s.keyAction k pressed) := by
  have h : ∃ kb, s.keyAction k pressed = { s with kbd := kb } := by
    unfold State.keyAction
    split
    · exact ⟨_, rfl⟩
    · exact ⟨_, rfl⟩
  obtain ⟨kb, e⟩ := h
  have keys := fun h => Keyboard.Legends.keyAction (s := s) h k pressed
  rw [e] at keys ⊢
  exact ⟨rfl, rfl, le_refl _, id, id, fun _ _ => rfl, keys⟩

theorem Onward.hostAction {x : HostAction} (hx : s.hostAction x = .ok t) : Onward s t := by
  cases x
  case mountDisk d img =>
    simp only [State.hostAction, State.mountDisk] at hx
    split at hx
    · injection hx with hx
      exact hx ▸ .of_eq rfl rfl rfl rfl rfl rfl
    · cases hx
  case reset =>
    injection hx with hx
    subst hx
    exact (Onward.deviceReset s).trans (.of_eq rfl rfl rfl rfl rfl rfl)
  case press k =>
    injection hx with hx
    subst hx
    exact .keyAction s k _
  case release k =>
    injection hx with hx
    subst hx
    exact .keyAction s k _
  case addBreakpoint pc =>
    injection hx with hx
    subst hx
    unfold State.addBreakpoint
    split <;> exact .of_eq rfl rfl rfl rfl rfl rfl
  all_goals
    injection hx with hx
    subst hx
    exact .of_eq rfl rfl rfl rfl rfl rfl

theorem Onward.hostActions (l : List HostAction) (hx : s.hostActions l = .ok t) : Onward s t := by
  induction l generalizing s with
  | nil =>
    injection hx with hx
    exact hx ▸ .refl s
  | cons x l ih =>
    unfold State.hostActions at hx
    split at hx
    · injection hx with hx
      exact hx ▸ .refl s
    · split at hx
      · rename_i u hu
        exact (Onward.hostAction hu).trans (ih hx)
      · cases hx

theorem Onward.drainInbox (hx : s.drainInbox = .ok t) : Onward s t := by
  unfold State.drainInbox at hx
  split at hx
  · injection hx with hx
    exact hx ▸ .refl s
  · rename_i batch rest _
    have h1 : Onward s { s with inbox := rest } := .of_eq rfl rfl rfl rfl rfl rfl
    exact h1.trans (Onward.hostActions _ hx)

/-! ### The fetch -/

/-- A fetch reads through the memory router, but for the first one without a ROM (R119, R714). -/
theorem fetchByte_router (h : s.bareFirstFetch = false) (a : Word) : s.fetchByte a = s.readByte a := by
  simp [State.fetchByte, h]

theorem bareFirstFetch_iff :
    s.bareFirstFetch = true ↔ s.romSize = 0 ∧ s.clock = 0 ∧ s.cpu.pc = 0 := by
  simp [State.bareFirstFetch, and_assoc]

/-- What the fetch reads depends on the CPU, the memory, its map, the clock and the keyboard. -/
theorem fetchByte_congr (hc : t.cpu.pc = s.cpu.pc) (hr : t.romSize = s.romSize)
    (hk : t.clock = s.clock) {a : Word} (hb : t.readByte a = s.readByte a) :
    t.fetchByte a = s.fetchByte a := by
  simp [State.fetchByte, State.bareFirstFetch, hc, hr, hk, hb]

/-- A fetch changes the keyboard at most. -/
theorem fetchFrom_keeps {n : Nat} {got : List Byte} {i : Instr} {len : Nat}
    (h : s.fetchFrom n got = .ok (i, len, t)) : Keeps s t := by
  induction n generalizing got s with
  | zero => cases h
  | succ n ih =>
    unfold State.fetchFrom at h
    dsimp only at h
    split at h
    · exact (keeps_read s _).trans (ih h)
    · cases h
    · split at h
      · simp only [Except.ok.injEq, Prod.mk.injEq] at h
        obtain ⟨-, -, rfl⟩ := h
        exact keeps_read s _
      · cases h

theorem keeps_countRefresh (s : State) (i : Instr) : Keeps s (s.countRefresh i) := by
  unfold State.countRefresh
  split
  · exact .refl s
  · exact keeps_cpu s _

/-! ### The stages in order -/

/-- What runs in a step that answers a next state: a stop without an instruction, or the fetch, the
instruction, and the stages after it. -/
theorem runStep_next (h : s.runStep = .next t) :
    t = s ∨ t = { s with running := false }.emit (.breakpoint s.cpu.pc) ∨
      ∃ u v w, Keeps { s with skipBreak := false } u ∧ (∃ i, exec i u = .next v) ∧ v.dispatch.interruptCheck = .ok w ∧
        t = w.cassetteUpdate.timerCheck := by
  unfold State.runStep at h
  split at h
  · injection h with h
    exact .inl h.symm
  · split at h
    · injection h with h
      exact .inr (.inl h.symm)
    · refine .inr (.inr ?_)
      unfold State.runInstruction at h
      split at h
      · cases h
      · rename_i i len s1 hf
        have k1 := (fetchFrom_keeps hf).trans ((keeps_countRefresh s1 i).trans
          (keeps_setPC _ (s1.cpu.pc + BitVec.ofNat 16 len)))
        unfold execThen at h
        split at h
        · rename_i v hv
          obtain ⟨w, hw, rfl⟩ := map_ok (finish_next h)
          exact ⟨_, v, w, k1, ⟨i, hv⟩, hw, rfl⟩
        · cases h
        · cases h

theorem drainInbox_quiet (h : s.inbox = []) : s.drainInbox = .ok s := by
  unfold State.drainInbox
  split
  · rfl
  · rename_i e
    rw [h] at e
    cases e

/-- A step without a fault, a shutdown or host actions is the step proper. -/
theorem step_quiet (h1 : s.fault = none) (h2 : s.shutDown = false) (h3 : s.inbox = []) :
    step s = s.runStep := by
  unfold step
  split
  · rename_i e
    rw [h1] at e
    cases e
  · simp [h2, drainInbox_quiet h3]

/-- Without a fault or a shutdown a step drains the host's actions and goes on. -/
theorem step_drained {d : State} (h1 : s.fault = none) (h2 : s.shutDown = false)
    (h3 : s.drainInbox = .ok d) : step s = d.runStep := by
  unfold step
  split
  · rename_i e
    rw [h1] at e
    cases e
  · simp [h2, h3]

/-- A step that is due to run an instruction. -/
theorem step_due {d : State} (h : s.Due d) :
    step s = ({ d with skipBreak := false } : State).runInstruction := by
  rw [step_drained h.noFault h.alive h.drained]
  unfold State.runStep
  rw [if_neg (by simp [h.running]), if_neg]
  rcases h.noStop with e | e
  · exact fun k => e k.1
  · simp [e]

/-- With no host action waiting, the step is due at the state itself. -/
theorem State.Ready.due (h : s.Ready) : s.Due s :=
  ⟨h.noFault, h.alive, drainInbox_quiet h.quiet, h.running, h.noStop⟩

theorem step_ready (h : s.Ready) : step s = ({ s with skipBreak := false } : State).runInstruction :=
  step_due h.due

end Sys2Proof.Machine
end

