-- ==== Sys2Proof/Tests/Slice0.lean ====
section
/-! SUPPORT. The model's own tests: ill-formed terms the well-formedness check refuses; a word of every
row of the opcode table, written out from its encoding; single steps with the results of
spec/95_test_vectors.md; and for each statement with hypotheses a state that meets them. -/

namespace Sys2Proof.Tests

open Sys2Proof.Machine

/-! ## Well-formedness: one ill-formed term per check -/

theorem test_wf_negMirror : (Instr.negMirror 0).wf = false := by decide
theorem test_wf_retnMirror : (Instr.retnMirror 0).wf = false ∧ (Instr.retnMirror 1).wf = false := by
  decide
theorem test_wf_im0Mirror : (Instr.im0Mirror 0).wf = false ∧ (Instr.im0Mirror 2).wf = false := by
  decide
theorem test_wf_ldRHX : (Instr.ldRHX .h).wf = false ∧ (Instr.ldRHX .l).wf = false := by decide
theorem test_wf_ldRLX : (Instr.ldRLX .h).wf = false ∧ (Instr.ldRLX .l).wf = false := by decide
theorem test_wf_ldHXR : (Instr.ldHXR .h).wf = false ∧ (Instr.ldHXR .l).wf = false := by decide
theorem test_wf_ldLXR : (Instr.ldLXR .h).wf = false ∧ (Instr.ldLXR .l).wf = false := by decide
theorem test_wf_ldRHY : (Instr.ldRHY .h).wf = false ∧ (Instr.ldRHY .l).wf = false := by decide
theorem test_wf_ldRLY : (Instr.ldRLY .h).wf = false ∧ (Instr.ldRLY .l).wf = false := by decide
theorem test_wf_ldHYR : (Instr.ldHYR .h).wf = false ∧ (Instr.ldHYR .l).wf = false := by decide
theorem test_wf_ldLYR : (Instr.ldLYR .h).wf = false ∧ (Instr.ldLYR .l).wf = false := by decide

/-! ## Decoding: one word of every row, bit by bit from the `encoding` column of the table -/

/-- Each byte list decodes to its instruction, with nothing left. -/
def decodesTo (l : List (List Nat × Instr)) : Bool :=
  l.all fun p => decode (p.1.map (BitVec.ofNat 8)) == .ok p.2 []

theorem test_decode_words_01 :
    decodesTo [
      ([0b00000000], .nop),
      ([0b00001000], .exAFAF'),
      ([0b00010000, 0b10000101], (.djnzE 0x85)),
      ([0b00011000, 0b10000101], (.jrE 0x85)),
      ([0b00101000, 0b10000101], (.jrJCCE .z 0x85)),
      ([0b00010001, 0b00110100, 0b10100010], (.ldDDNN .de 0xA234)),
      ([0b00001001], (.addHLSS .bc)),
      ([0b00000010], .ldAtBCA),
      ([0b00001010], .ldAAtBC),
      ([0b00010010], .ldAtDEA)] = true ∧
    decodesTo [
      ([0b00011010], .ldAAtDE),
      ([0b00100010, 0b00110100, 0b10100010], (.ldAtNNHL 0xA234)),
      ([0b00101010, 0b00110100, 0b10100010], (.ldHLAtNN 0xA234)),
      ([0b00110010, 0b00110100, 0b10100010], (.ldAtNNA 0xA234)),
      ([0b00111010, 0b00110100, 0b10100010], (.ldAAtNN 0xA234)),
      ([0b00110011], (.incSS .sp)),
      ([0b00101011], (.decSS .hl)),
      ([0b00001100], (.incR .c)),
      ([0b00110100], .incAtHL),
      ([0b00100101], (.decR .h))] = true := by decide

theorem test_decode_words_02 :
    decodesTo [
      ([0b00110101], .decAtHL),
      ([0b00000110, 0b10011001], (.ldRN .b 0x99)),
      ([0b00110110, 0b10011001], (.ldAtHLN 0x99)),
      ([0b00000111], .rlca),
      ([0b00001111], .rrca),
      ([0b00010111], .rla),
      ([0b00011111], .rra),
      ([0b00100111], .daa),
      ([0b00101111], .cpl),
      ([0b00110111], .scf)] = true ∧
    decodesTo [
      ([0b00111111], .ccf),
      ([0b01011011], (.ldRR .e .e)),
      ([0b01111110], (.ldRAtHL .a)),
      ([0b01110010], (.ldAtHLR .d)),
      ([0b01110110], .halt),
      ([0b10000101], (.addAR .l)),
      ([0b10000110], .addAAtHL),
      ([0b11000110, 0b10011001], (.addAN 0x99)),
      ([0b10001001], (.adcAR .c)),
      ([0b10001110], .adcAAtHL)] = true := by decide

theorem test_decode_words_03 :
    decodesTo [
      ([0b11001110, 0b10011001], (.adcAN 0x99)),
      ([0b10010100], (.subR .h)),
      ([0b10010110], .subAtHL),
      ([0b11010110, 0b10011001], (.subN 0x99)),
      ([0b10011000], (.sbcAR .b)),
      ([0b10011110], .sbcAAtHL),
      ([0b11011110, 0b10011001], (.sbcAN 0x99)),
      ([0b10100011], (.andR .e)),
      ([0b10100110], .andAtHL),
      ([0b11100110, 0b10011001], (.andN 0x99))] = true ∧
    decodesTo [
      ([0b10101111], (.xorR .a)),
      ([0b10101110], .xorAtHL),
      ([0b11101110, 0b10011001], (.xorN 0x99)),
      ([0b10110010], (.orR .d)),
      ([0b10110110], .orAtHL),
      ([0b11110110, 0b10011001], (.orN 0x99)),
      ([0b10111101], (.cpR .l)),
      ([0b10111110], .cpAtHL),
      ([0b11111110, 0b10011001], (.cpN 0x99)),
      ([0b11001000], (.retCC .z))] = true := by decide

theorem test_decode_words_04 :
    decodesTo [
      ([0b11010001], (.popQQ .de)),
      ([0b11001001], .ret),
      ([0b11011001], .exx),
      ([0b11101001], .jpHL),
      ([0b11111001], .ldSPHL),
      ([0b11100010, 0b00110100, 0b10100010], (.jpCCNN .po 0xA234)),
      ([0b11000011, 0b00110100, 0b10100010], (.jpNN 0xA234)),
      ([0b11010011, 0b10011001], (.outAtNA 0x99)),
      ([0b11011011, 0b10011001], (.inAAtN 0x99)),
      ([0b11100011], .exAtSPHL)] = true ∧
    decodesTo [
      ([0b11101011], .exDEHL),
      ([0b11110011], .di),
      ([0b11111011], .ei),
      ([0b11111100, 0b00110100, 0b10100010], (.callCCNN .m 0xA234)),
      ([0b11000101], (.pushQQ .bc)),
      ([0b11001101, 0b00110100, 0b10100010], (.callNN 0xA234)),
      ([0b11001111], (.rstP 1)),
      ([0b11001011, 0b00000001], (.rlcR .c)),
      ([0b11001011, 0b00000110], .rlcAtHL),
      ([0b11001011, 0b00001100], (.rrcR .h))] = true := by decide

theorem test_decode_words_05 :
    decodesTo [
      ([0b11001011, 0b00001110], .rrcAtHL),
      ([0b11001011, 0b00010000], (.rlR .b)),
      ([0b11001011, 0b00010110], .rlAtHL),
      ([0b11001011, 0b00011011], (.rrR .e)),
      ([0b11001011, 0b00011110], .rrAtHL),
      ([0b11001011, 0b00100111], (.slaR .a)),
      ([0b11001011, 0b00100110], .slaAtHL),
      ([0b11001011, 0b00101010], (.sraR .d)),
      ([0b11001011, 0b00101110], .sraAtHL),
      ([0b11001011, 0b00110101], (.sllR .l))] = true ∧
    decodesTo [
      ([0b11001011, 0b00110110], .sllAtHL),
      ([0b11001011, 0b00111001], (.srlR .c)),
      ([0b11001011, 0b00111110], .srlAtHL),
      ([0b11001011, 0b01001100], (.bitBR 1 .h)),
      ([0b11001011, 0b01100110], (.bitBAtHL 4)),
      ([0b11001011, 0b10111000], (.resBR 7 .b)),
      ([0b11001011, 0b10010110], (.resBAtHL 2)),
      ([0b11001011, 0b11101011], (.setBR 5 .e)),
      ([0b11001011, 0b11000110], (.setBAtHL 0)),
      ([0b11101101, 0b01111000], (.inRAtC .a))] = true := by decide

theorem test_decode_words_06 :
    decodesTo [
      ([0b11101101, 0b01110000], .inFAtC),
      ([0b11101101, 0b01010001], (.outAtCR .d)),
      ([0b11101101, 0b01110001], .outAtC0),
      ([0b11101101, 0b01010010], (.sbcHLSS .de)),
      ([0b11101101, 0b01001010], (.adcHLSS .bc)),
      ([0b11101101, 0b01110011, 0b00110100, 0b10100010], (.ldAtNNDD .sp 0xA234)),
      ([0b11101101, 0b01101011, 0b00110100, 0b10100010], (.ldDDAtNN .hl 0xA234)),
      ([0b11101101, 0b01000100], .neg),
      ([0b11101101, 0b01010100], (.negMirror 2)),
      ([0b11101101, 0b01000101], .retn)] = true ∧
    decodesTo [
      ([0b11101101, 0b01001101], .reti),
      ([0b11101101, 0b01110101], (.retnMirror 6)),
      ([0b11101101, 0b01000110], .im0),
      ([0b11101101, 0b01010110], .im1),
      ([0b11101101, 0b01011110], .im2),
      ([0b11101101, 0b01100110], (.im0Mirror 4)),
      ([0b11101101, 0b01110110], .im1Mirror),
      ([0b11101101, 0b01111110], .im2Mirror),
      ([0b11101101, 0b01000111], .ldVectorA),
      ([0b11101101, 0b01001111], .ldRefreshA)] = true := by decide

theorem test_decode_words_07 :
    decodesTo [
      ([0b11101101, 0b01010111], .ldAVector),
      ([0b11101101, 0b01011111], .ldARefresh),
      ([0b11101101, 0b01100111], .rrd),
      ([0b11101101, 0b01101111], .rld),
      ([0b11101101, 0b10100000], .ldi),
      ([0b11101101, 0b10100001], .cpi),
      ([0b11101101, 0b10100010], .ini),
      ([0b11101101, 0b10100011], .outi),
      ([0b11101101, 0b10101000], .ldd),
      ([0b11101101, 0b10101001], .cpd)] = true ∧
    decodesTo [
      ([0b11101101, 0b10101010], .ind),
      ([0b11101101, 0b10101011], .outd),
      ([0b11101101, 0b10110000], .ldir),
      ([0b11101101, 0b10110001], .cpir),
      ([0b11101101, 0b10110010], .inir),
      ([0b11101101, 0b10110011], .otir),
      ([0b11101101, 0b10111000], .lddr),
      ([0b11101101, 0b10111001], .cpdr),
      ([0b11101101, 0b10111010], .indr),
      ([0b11101101, 0b10111011], .otdr)] = true := by decide

theorem test_decode_words_08 :
    decodesTo [
      ([0b11011101, 0b00011001], (.addIXPP .de)),
      ([0b11011101, 0b00100001, 0b00110100, 0b10100010], (.ldIXNN 0xA234)),
      ([0b11011101, 0b00100010, 0b00110100, 0b10100010], (.ldAtNNIX 0xA234)),
      ([0b11011101, 0b00101010, 0b00110100, 0b10100010], (.ldIXAtNN 0xA234)),
      ([0b11011101, 0b00100011], .incIX),
      ([0b11011101, 0b00101011], .decIX),
      ([0b11011101, 0b00110100, 0b11111110], (.incAtIXd 0xFE)),
      ([0b11011101, 0b00110101, 0b11111110], (.decAtIXd 0xFE)),
      ([0b11011101, 0b00110110, 0b11111110, 0b01011010], (.ldAtIXdN 0xFE 0x5A)),
      ([0b11011101, 0b01101110, 0b11111110], (.ldRAtIXd .l 0xFE))] = true ∧
    decodesTo [
      ([0b11011101, 0b01110001, 0b11111110], (.ldAtIXdR .c 0xFE)),
      ([0b11011101, 0b10000110, 0b11111110], (.addAAtIXd 0xFE)),
      ([0b11011101, 0b10000100], .addAHX),
      ([0b11011101, 0b10000101], .addALX),
      ([0b11011101, 0b10001110, 0b11111110], (.adcAAtIXd 0xFE)),
      ([0b11011101, 0b10001100], .adcAHX),
      ([0b11011101, 0b10001101], .adcALX),
      ([0b11011101, 0b10010110, 0b11111110], (.subAtIXd 0xFE)),
      ([0b11011101, 0b10010100], .subHX),
      ([0b11011101, 0b10010101], .subLX)] = true := by decide

theorem test_decode_words_09 :
    decodesTo [
      ([0b11011101, 0b10011110, 0b11111110], (.sbcAAtIXd 0xFE)),
      ([0b11011101, 0b10011100], .sbcAHX),
      ([0b11011101, 0b10011101], .sbcALX),
      ([0b11011101, 0b10100110, 0b11111110], (.andAtIXd 0xFE)),
      ([0b11011101, 0b10100100], .andHX),
      ([0b11011101, 0b10100101], .andLX),
      ([0b11011101, 0b10101110, 0b11111110], (.xorAtIXd 0xFE)),
      ([0b11011101, 0b10101100], .xorHX),
      ([0b11011101, 0b10101101], .xorLX),
      ([0b11011101, 0b10110110, 0b11111110], (.orAtIXd 0xFE))] = true ∧
    decodesTo [
      ([0b11011101, 0b10110100], .orHX),
      ([0b11011101, 0b10110101], .orLX),
      ([0b11011101, 0b10111110, 0b11111110], (.cpAtIXd 0xFE)),
      ([0b11011101, 0b10111100], .cpHX),
      ([0b11011101, 0b10111101], .cpLX),
      ([0b11011101, 0b11100001], .popIX),
      ([0b11011101, 0b11100011], .exAtSPIX),
      ([0b11011101, 0b11100101], .pushIX),
      ([0b11011101, 0b11101001], .jpIX),
      ([0b11011101, 0b11111001], .ldSPIX)] = true := by decide

theorem test_decode_words_10 :
    decodesTo [
      ([0b11011101, 0b00100100], .incHX),
      ([0b11011101, 0b00100101], .decHX),
      ([0b11011101, 0b00100110, 0b10011001], (.ldHXN 0x99)),
      ([0b11011101, 0b00101100], .incLX),
      ([0b11011101, 0b00101101], .decLX),
      ([0b11011101, 0b00101110, 0b10011001], (.ldLXN 0x99)),
      ([0b11011101, 0b01011100], (.ldRHX .e)),
      ([0b11011101, 0b01001101], (.ldRLX .c)),
      ([0b11011101, 0b01100111], (.ldHXR .a)),
      ([0b11011101, 0b01101010], (.ldLXR .d))] = true ∧
    decodesTo [
      ([0b11011101, 0b01100100], .ldHXHX),
      ([0b11011101, 0b01100101], .ldHXLX),
      ([0b11011101, 0b01101100], .ldLXHX),
      ([0b11011101, 0b01101101], .ldLXLX),
      ([0b11011101, 0b11001011, 0b11111110, 0b00000110], (.rlcAtIXd 0xFE)),
      ([0b11011101, 0b11001011, 0b11111110, 0b00001110], (.rrcAtIXd 0xFE)),
      ([0b11011101, 0b11001011, 0b11111110, 0b00010110], (.rlAtIXd 0xFE)),
      ([0b11011101, 0b11001011, 0b11111110, 0b00011110], (.rrAtIXd 0xFE)),
      ([0b11011101, 0b11001011, 0b11111110, 0b00100110], (.slaAtIXd 0xFE)),
      ([0b11011101, 0b11001011, 0b11111110, 0b00101110], (.sraAtIXd 0xFE))] = true := by decide

theorem test_decode_words_11 :
    decodesTo [
      ([0b11011101, 0b11001011, 0b11111110, 0b00110110], (.sllAtIXd 0xFE)),
      ([0b11011101, 0b11001011, 0b11111110, 0b00111110], (.srlAtIXd 0xFE)),
      ([0b11011101, 0b11001011, 0b11111110, 0b00001010], (.rotAtIXdR .rrc 0xFE .d)),
      ([0b11011101, 0b11001011, 0b11111110, 0b01011110], (.bitBAtIXd 3 0xFE)),
      ([0b11011101, 0b11001011, 0b11111110, 0b10110110], (.resBAtIXd 6 0xFE)),
      ([0b11011101, 0b11001011, 0b11111110, 0b11001110], (.setBAtIXd 1 0xFE)),
      ([0b11011101, 0b11001011, 0b11111110, 0b01100101], (.bitBAtIXdMirror 4 0xFE .l)),
      ([0b11011101, 0b11001011, 0b11111110, 0b10111001], (.resBAtIXdR 7 0xFE .c)),
      ([0b11011101, 0b11001011, 0b11111110, 0b11010100], (.setBAtIXdR 2 0xFE .h)),
      ([0b11111101, 0b00001001], (.addIYRR .bc))] = true ∧
    decodesTo [
      ([0b11111101, 0b00100001, 0b00110100, 0b10100010], (.ldIYNN 0xA234)),
      ([0b11111101, 0b00100010, 0b00110100, 0b10100010], (.ldAtNNIY 0xA234)),
      ([0b11111101, 0b00101010, 0b00110100, 0b10100010], (.ldIYAtNN 0xA234)),
      ([0b11111101, 0b00100011], .incIY),
      ([0b11111101, 0b00101011], .decIY),
      ([0b11111101, 0b00110100, 0b11111110], (.incAtIYd 0xFE)),
      ([0b11111101, 0b00110101, 0b11111110], (.decAtIYd 0xFE)),
      ([0b11111101, 0b00110110, 0b11111110, 0b01011010], (.ldAtIYdN 0xFE 0x5A)),
      ([0b11111101, 0b01000110, 0b11111110], (.ldRAtIYd .b 0xFE)),
      ([0b11111101, 0b01110011, 0b11111110], (.ldAtIYdR .e 0xFE))] = true := by decide

theorem test_decode_words_12 :
    decodesTo [
      ([0b11111101, 0b10000110, 0b11111110], (.addAAtIYd 0xFE)),
      ([0b11111101, 0b10000100], .addAHY),
      ([0b11111101, 0b10000101], .addALY),
      ([0b11111101, 0b10001110, 0b11111110], (.adcAAtIYd 0xFE)),
      ([0b11111101, 0b10001100], .adcAHY),
      ([0b11111101, 0b10001101], .adcALY),
      ([0b11111101, 0b10010110, 0b11111110], (.subAtIYd 0xFE)),
      ([0b11111101, 0b10010100], .subHY),
      ([0b11111101, 0b10010101], .subLY),
      ([0b11111101, 0b10011110, 0b11111110], (.sbcAAtIYd 0xFE))] = true ∧
    decodesTo [
      ([0b11111101, 0b10011100], .sbcAHY),
      ([0b11111101, 0b10011101], .sbcALY),
      ([0b11111101, 0b10100110, 0b11111110], (.andAtIYd 0xFE)),
      ([0b11111101, 0b10100100], .andHY),
      ([0b11111101, 0b10100101], .andLY),
      ([0b11111101, 0b10101110, 0b11111110], (.xorAtIYd 0xFE)),
      ([0b11111101, 0b10101100], .xorHY),
      ([0b11111101, 0b10101101], .xorLY),
      ([0b11111101, 0b10110110, 0b11111110], (.orAtIYd 0xFE)),
      ([0b11111101, 0b10110100], .orHY)] = true := by decide

theorem test_decode_words_13 :
    decodesTo [
      ([0b11111101, 0b10110101], .orLY),
      ([0b11111101, 0b10111110, 0b11111110], (.cpAtIYd 0xFE)),
      ([0b11111101, 0b10111100], .cpHY),
      ([0b11111101, 0b10111101], .cpLY),
      ([0b11111101, 0b11100001], .popIY),
      ([0b11111101, 0b11100011], .exAtSPIY),
      ([0b11111101, 0b11100101], .pushIY),
      ([0b11111101, 0b11101001], .jpIY),
      ([0b11111101, 0b11111001], .ldSPIY),
      ([0b11111101, 0b00100100], .incHY)] = true ∧
    decodesTo [
      ([0b11111101, 0b00100101], .decHY),
      ([0b11111101, 0b00100110, 0b10011001], (.ldHYN 0x99)),
      ([0b11111101, 0b00101100], .incLY),
      ([0b11111101, 0b00101101], .decLY),
      ([0b11111101, 0b00101110, 0b10011001], (.ldLYN 0x99)),
      ([0b11111101, 0b01011100], (.ldRHY .e)),
      ([0b11111101, 0b01001101], (.ldRLY .c)),
      ([0b11111101, 0b01100111], (.ldHYR .a)),
      ([0b11111101, 0b01101010], (.ldLYR .d)),
      ([0b11111101, 0b01100100], .ldHYHY)] = true := by decide

theorem test_decode_words_14 :
    decodesTo [
      ([0b11111101, 0b01100101], .ldHYLY),
      ([0b11111101, 0b01101100], .ldLYHY),
      ([0b11111101, 0b01101101], .ldLYLY),
      ([0b11111101, 0b11001011, 0b11111110, 0b00000110], (.rlcAtIYd 0xFE)),
      ([0b11111101, 0b11001011, 0b11111110, 0b00001110], (.rrcAtIYd 0xFE)),
      ([0b11111101, 0b11001011, 0b11111110, 0b00010110], (.rlAtIYd 0xFE)),
      ([0b11111101, 0b11001011, 0b11111110, 0b00011110], (.rrAtIYd 0xFE)),
      ([0b11111101, 0b11001011, 0b11111110, 0b00100110], (.slaAtIYd 0xFE)),
      ([0b11111101, 0b11001011, 0b11111110, 0b00101110], (.sraAtIYd 0xFE)),
      ([0b11111101, 0b11001011, 0b11111110, 0b00110110], (.sllAtIYd 0xFE))] = true ∧
    decodesTo [
      ([0b11111101, 0b11001011, 0b11111110, 0b00111110], (.srlAtIYd 0xFE)),
      ([0b11111101, 0b11001011, 0b11111110, 0b00100100], (.rotAtIYdR .sla 0xFE .h)),
      ([0b11111101, 0b11001011, 0b11111110, 0b01101110], (.bitBAtIYd 5 0xFE)),
      ([0b11111101, 0b11001011, 0b11111110, 0b10000110], (.resBAtIYd 0 0xFE)),
      ([0b11111101, 0b11001011, 0b11111110, 0b11011110], (.setBAtIYd 3 0xFE)),
      ([0b11111101, 0b11001011, 0b11111110, 0b01110000], (.bitBAtIYdMirror 6 0xFE .b)),
      ([0b11111101, 0b11001011, 0b11111110, 0b10001011], (.resBAtIYdR 1 0xFE .e)),
      ([0b11111101, 0b11001011, 0b11111110, 0b11100111], (.setBAtIYdR 4 0xFE .a))] = true := by decide

/-- Refused byte strings: an ED hole, a second DD prefix, a DD row that does not exist (R142, R154,
R155; vectors of section 2.3). -/
theorem test_decode_refused :
    decode [0xED, 0x00] = .unknown ∧ decode [0xDD, 0xDD] = .unknown ∧
      decode [0xDD, 0x00] = .unknown ∧ decode [0xDD, 0xCB, 0x05] = .more := by decide

/-- The table's numbering: the word of `LD (IX-2),99h` with its first byte most significant. -/
theorem test_table_word :
    decodeTableWord 8 0x41 = some (.ldRR .b .c) ∧
      decodeTableWord 32 0xDD36FE99 = some (.ldAtIXdN 0xFE 0x99) := by decide

/-! ## Single steps, with the results of spec/95_test_vectors.md -/

/-- A running machine with PC = 4000, ROM_SIZE = 3000 and the `formula` flags (section 0 of the
vectors), `bytes` at 4000, `mem` at 4100, and registers set by `g`. -/
def at4 (bytes : List Nat) (g : Regs → Regs) (mem : List Nat := []) : State :=
  let m := Memory.setBytes [] 0x4000 (bytes.map (BitVec.ofNat 8))
  { State.reset with
    cfg := { Config.hardware with undocFlags := .formula }
    cpu := { g Regs.zero with pc := 0x4000 }
    romSize := 0x3000
    mem := m.setBytes 0x4100 (mem.map (BitVec.ofNat 8))
    running := true }

/-- The step answers a next state that meets `p`. -/
def after (s : State) (p : State → Bool) : Bool :=
  match step s with
  | .next t => p t
  | .fault _ => false
  | .refused _ => false

/-- The step answers this fault, with PC at `pc` and the clock at `n`. -/
def stops (s : State) (r : FatalReason) (pc : Word) (n : Nat) : Bool :=
  match step s with
  | .next _ => false
  | .fault (.fatal q t) => q == r && t.fault == some r && t.cpu.pc == pc && t.clock == n
  | .refused _ => false

/-- Section 3.1, R203: the displacement 80 is -128. -/
theorem test_ld_r_ixd :
    after (at4 [0xDD, 0x7E, 0x80] (fun c => { c with ix := 0x4180 }) [0x5A])
      (fun t => t.cpu.a == 0x5A && t.clock == 19 && t.cpu.pc == 0x4003) = true := by
  decide

/-- Section 3.1, R205. -/
theorem test_ld_iyd_r :
    after (at4 [0xFD, 0x77, 0x00] (fun c => { c with iy := 0x3C10, a := 0x20 }))
      (fun t => t.mem.get 0x3C10 == 0x20 && t.outputs == [.screenWrite 0x3C10 0x20] && t.clock == 19) = true := by
  decide

/-- Section 3.1, R218. -/
theorem test_ld_a_i :
    after (at4 [0xED, 0x57] (fun c => { c with i := 0x80, iff2 := true }))
      (fun t => t.cpu.a == 0x80 && t.cpu.f == 0x84 && t.clock == 9) = true := by
  decide

/-- Section 3.2, R235: the high byte goes to 0000, which is ROM. -/
theorem test_ld_nn_hl_wraps :
    after (at4 [0x22, 0xFF, 0xFF] (fun c => { c with h := 0x12, l := 0x34 }))
      (fun t => t.mem.get 0xFFFF == 0x34 && t.mem.get 0 == 0x00 && t.clock == 16) = true := by
  decide

/-- Section 3.2, R240. -/
theorem test_push_af :
    after (at4 [0xF5] (fun c => { c with sp := 0x8000, a := 0x12, f := 0xD7 }))
      (fun t => t.mem.get 0x7FFE == 0xD7 && t.mem.get 0x7FFF == 0x12 && t.cpu.sp == 0x7FFE) = true := by
  decide

/-- Section 3.2, R242. -/
theorem test_pop_af :
    after (at4 [0xF1] (fun c => { c with sp := 0x4100 }) [0xFF, 0x12])
      (fun t => t.cpu.a == 0x12 && t.cpu.f == 0xFF && t.cpu.sp == 0x4102 && t.clock == 10) = true := by
  decide

/-- Section 3.3, R263. -/
theorem test_ex_sp_hl :
    after (at4 [0xE3] (fun c => { c with sp := 0x4100, h := 0xAB, l := 0xCD }) [0x34, 0x12])
      (fun t => t.cpu.hl == 0x1234 && t.mem.get 0x4100 == 0xCD && t.mem.get 0x4101 == 0xAB) = true := by
  decide

/-- Section 3.3, R267: BC not 0 goes back 2 bytes and costs 21. -/
theorem test_ldir_repeats :
    after (at4 [0xED, 0xB0] (fun c => { c with h := 0x41, d := 0x41, e := 0x01, c := 0x03 }) [0xAA])
      (fun t => t.mem.get 0x4101 == 0xAA && t.cpu.bc == 2 && t.cpu.pc == 0x4000 && t.clock == 21) = true := by
  decide

/-- Section 3.4, R292. -/
theorem test_add_n :
    after (at4 [0xC6, 0x01] (fun c => { c with a := 0x7F, f := 0x00 }))
      (fun t => t.cpu.a == 0x80 && t.cpu.f == 0x94 && t.clock == 7) = true := by
  decide

/-- Section 3.4, R293. -/
theorem test_adc_n :
    after (at4 [0xCE, 0xFF] (fun c => { c with a := 0xFF, f := 0x01 }))
      (fun t => t.cpu.a == 0xFF && t.cpu.f == 0xB9 && t.clock == 7) = true := by
  decide

/-- Section 3.4, R294. -/
theorem test_sub_n :
    after (at4 [0xD6, 0x01] (fun c => { c with a := 0x80, f := 0x00 }))
      (fun t => t.cpu.a == 0x7F && t.cpu.f == 0x3E && t.clock == 7) = true := by
  decide

/-- Section 3.4, R295. -/
theorem test_sbc_n :
    after (at4 [0xDE, 0xFF] (fun c => { c with a := 0x00, f := 0x01 }))
      (fun t => t.cpu.a == 0x00 && t.cpu.f == 0x53 && t.clock == 7) = true := by
  decide

/-- Section 3.4, R296. -/
theorem test_and_n :
    after (at4 [0xE6, 0x00] (fun c => { c with a := 0xFF, f := 0x01 }))
      (fun t => t.cpu.a == 0x00 && t.cpu.f == 0x54 && t.clock == 7) = true := by
  decide

/-- Section 3.4, R297. -/
theorem test_xor_n :
    after (at4 [0xEE, 0x0F] (fun c => { c with a := 0xFF, f := 0x01 }))
      (fun t => t.cpu.a == 0xF0 && t.cpu.f == 0xA4 && t.clock == 7) = true := by
  decide

/-- Section 3.4, R298. -/
theorem test_or_n :
    after (at4 [0xF6, 0x01] (fun c => { c with a := 0x28, f := 0x00 }))
      (fun t => t.cpu.a == 0x29 && t.cpu.f == 0x28 && t.clock == 7) = true := by
  decide

/-- Section 3.4, R305. -/
theorem test_dec_ixd :
    after (at4 [0xDD, 0x35, 0xFF] (fun c => { c with ix := 0x4101, f := 0x01 }) [0x80])
      (fun t => t.mem.get 0x4100 == 0x7F && t.cpu.f == 0x3F && t.clock == 23) = true := by
  decide

/-- Section 2.3, R300. -/
theorem test_inc_hx :
    after (at4 [0xDD, 0x24] (fun c => { c with ix := 0x12FF }))
      (fun t => t.cpu.ix == 0x13FF && t.clock == 8) = true := by
  decide

/-- Section 3.5, R320. -/
theorem test_daa_after_add :
    after (at4 [0x27] (fun c => { c with a := 0x9A, f := 0x88 }))
      (fun t => t.cpu.a == 0x00 && t.cpu.f == 0x55) = true := by
  decide

/-- Section 3.5, R320. -/
theorem test_daa_after_sub :
    after (at4 [0x27] (fun c => { c with a := 0x2D, f := 0x3A }))
      (fun t => t.cpu.a == 0x27 && t.cpu.f == 0x26) = true := by
  decide

/-- Section 3.5, R322. -/
theorem test_neg_80 :
    after (at4 [0xED, 0x44] (fun c => { c with a := 0x80 }))
      (fun t => t.cpu.a == 0x80 && t.cpu.f == 0x87) = true := by
  decide

/-- Section 3.5, R326. -/
theorem test_halt :
    after (at4 [0x76] id)
      (fun t => t.cpu.halted && t.cpu.pc == 0x4000 && t.clock == 4) = true := by
  decide

/-- Section 3.7, R370. -/
theorem test_rlca :
    after (at4 [0x07] (fun c => { c with a := 0xC0, f := 0x40 }))
      (fun t => t.cpu.a == 0x81 && t.cpu.f == 0x41) = true := by
  decide

/-- Section 3.7, R378. -/
theorem test_rl_d :
    after (at4 [0xCB, 0x12] (fun c => { c with d := 0x55, f := 0x01 }))
      (fun t => t.cpu.d == 0xAB && t.cpu.f == 0xA8 && t.clock == 8) = true := by
  decide

/-- Section 2.3, R376. -/
theorem test_rlc_ixd :
    after (at4 [0xDD, 0xCB, 0x05, 0x06] (fun c => { c with ix := 0x40FB }) [0x80])
      (fun t => t.mem.get 0x4100 == 0x01 && t.cpu.f.getLsbD 0 && t.cpu.pc == 0x4004 && t.clock == 23) = true := by
  decide

/-- Section 3.7, R384. -/
theorem test_rld :
    after (at4 [0xED, 0x6F] (fun c => { c with h := 0x41, a := 0x7A, f := 0x01 }) [0x31])
      (fun t => t.cpu.a == 0x73 && t.mem.get 0x4100 == 0x1A && t.cpu.f == 0x21 && t.clock == 18) = true := by
  decide

/-- Section 3.7, R385. -/
theorem test_rrd :
    after (at4 [0xED, 0x67] (fun c => { c with h := 0x41, a := 0x84 }) [0x20])
      (fun t => t.cpu.a == 0x80 && t.mem.get 0x4100 == 0x42 && t.cpu.f == 0x80) = true := by
  decide

/-- Section 3.8, R403. -/
theorem test_set_7_b :
    after (at4 [0xCB, 0xF8] (fun c => { c with f := 0x33 }))
      (fun t => t.cpu.b == 0x80 && t.cpu.f == 0x33) = true := by
  decide

/-- Section 3.6, R350. -/
theorem test_add_hl_bc :
    after (at4 [0x09] (fun c => { c with h := 0xFF, l := 0xFF, c := 0x01 }))
      (fun t => t.cpu.hl == 0 && t.clock == 11) = true := by
  decide

/-- Section 3.9, R427. -/
theorem test_djnz_taken :
    after (at4 [0x10, 0xFE] id)
      (fun t => t.cpu.b == 0xFF && t.cpu.pc == 0x4000 && t.clock == 13) = true := by
  decide

/-- Section 1.3, R427. -/
theorem test_djnz_falls :
    after (at4 [0x10, 0xFE] (fun c => { c with b := 0x01 }))
      (fun t => t.cpu.b == 0x00 && t.cpu.pc == 0x4002 && t.clock == 8) = true := by
  decide

/-- Section 3.9, R423. -/
theorem test_jr_back :
    after (at4 [0x18, 0x80] id)
      (fun t => t.cpu.pc == 0x3F82 && t.clock == 12) = true := by
  decide

/-- Section 3.9, R428. -/
theorem test_call_nn :
    after (at4 [0xCD, 0x00, 0x50] (fun c => { c with sp := 0x8000 }))
      (fun t => t.cpu.pc == 0x5000 && t.mem.get 0x7FFE == 0x03 && t.mem.get 0x7FFF == 0x40 && t.clock == 17) = true := by
  decide

/-- Section 3.9, R429. -/
theorem test_call_nz_not :
    after (at4 [0xC4, 0x00, 0x50] (fun c => { c with sp := 0x8000, f := 0x40 }))
      (fun t => t.cpu.pc == 0x4003 && t.cpu.sp == 0x8000 && t.clock == 10) = true := by
  decide

/-- Section 3.9, R432. -/
theorem test_reti :
    after (at4 [0xED, 0x4D] (fun c => { c with sp := 0x4100, iff2 := true }) [0x00, 0x41])
      (fun t => t.cpu.pc == 0x4100 && t.cpu.iff1 && t.clock == 14) = true := by
  decide

/-- Section 3.10, R461, with the track register 0. -/
theorem test_in_d_c :
    after (at4 [0xED, 0x50] (fun c => { c with c := 0xF1, d := 0x55 }))
      (fun t => t.cpu.d == 0x00 && t.cpu.f == 0x44 && t.clock == 12) = true := by
  decide

/-- Section 3.10, R468. -/
theorem test_out_c_b :
    after (at4 [0xED, 0x41] (fun c => { c with b := 0xE4, c := 0xE4 }))
      (fun t => t.lat.nmiMask == 0xE4 && t.clock == 12) = true := by
  decide

/-- Section 2.2, R110, R500: PC past the instruction, the clock unchanged. -/
theorem test_in_unknown_port :
    stops (at4 [0xDB, 0x00] id) (.unknownPortIn 0x00) 0x4002 0 = true := by
  decide

/-- Section 2.2, R110: E1 is no mirror of E0. -/
theorem test_out_e1 :
    stops (at4 [0xD3, 0xE1] id) (.unknownPortOut 0xE1) 0x4002 0 = true := by
  decide

/-- Section 2.3, R141: SLL B under UNDOC_EXTENDED = false. -/
theorem test_extended_refused :
    stops (at4 [0xCB, 0x30] id) (.unknownOpcode [0xCB, 0x30]) 0x4000 0 = true := by
  decide

/-- Section 2.3, R156. -/
theorem test_ddcb_extended_refused :
    stops (at4 [0xDD, 0xCB, 0x05, 0x00] id) (.unknownOpcode [0xDD, 0xCB, 0x05, 0x00]) 0x4000 0 = true := by
  decide

/-- Section 4.3 F19, R602. -/
theorem test_fdc_command_a0 :
    stops (at4 [0xD3, 0xF0] (fun c => { c with a := 0xA0 })) (.fdcUnsupportedCommand 0xA0) 0x4002 0 = true := by
  decide

/-- IFF1 set, IM 1, the timer interrupt enabled and pending (vectors I1 to I3). -/
def irqPending (m : IntMode) (l : Latches) : State :=
  let s := at4 [0x00] (fun c => { c with sp := 0x8000, iff1 := true, iff2 := true, im := m })
  { s with lat := l }

/-- I1: the instruction runs, then the IRQ is taken in mode 1. -/
theorem test_irq_entry :
    after (irqPending .im1 ⟨4, 4, 0x20, 0, false⟩) (fun t =>
      t.cpu.pc == 0x0038 && t.cpu.sp == 0x7FFE && t.mem.get 0x7FFE == 0x01 &&
        t.mem.get 0x7FFF == 0x40 && !t.cpu.iff1 && t.cpu.iff2 && t.lat.irqLatch == 4) = true := by
  decide

/-- I2: in mode 0 the instruction runs, then the fault comes, with no push. -/
theorem test_irq_mode0 :
    stops (irqPending .im0 ⟨4, 4, 0x20, 0, false⟩) (.interruptMode .im0) 0x4001 4 = true := by
  decide

/-- I3: the NMI wins. -/
theorem test_nmi_entry :
    after (irqPending .im1 ⟨4, 4, 0xA0, 0x80, false⟩) (fun t =>
      t.cpu.pc == 0x0066 && t.mem.get 0x7FFE == 0x01 && t.cpu.iff2 && !t.cpu.iff1 &&
        t.lat.nmiSeen) = true := by decide

/-- The EI vector of section 3.5: no entry in the step of EI itself. -/
theorem test_ei_shadow :
    after { at4 [0xFB] (fun c => { c with im := .im1 }) with lat := ⟨4, 4, 0x20, 0, false⟩ }
      (fun t => t.cpu.pc == 0x4001 && t.cpu.iff1 && t.cpu.iff2 && !t.cpu.eiShadow) = true := by
  decide

/-- I8: the tick at the step ending at 67,584, here from just before it. -/
theorem test_timer_tick :
    after { at4 [0x00] id with clock := 67580 }
      (fun t => t.lat.irqLatch == 4 && t.nextTimer == 135168 && t.clock == 67584) = true := by
  decide

/-- E1 and E2: the queue's order and the cancel. -/
def queueE1 : State :=
  ((State.reset.schedule 1 100 (.diskDone 1)).schedule 2 100 .lostData).schedule 4 50 .firstDrq

theorem test_queue_order :
    queueE1.events.map (fun e => (e.kind, e.fireClock)) = [(4, 50), (1, 100), (2, 100)] ∧
      (queueE1.cancel 5).events.map (fun e => (e.kind, e.fireClock)) = [(2, 100)] := by decide

/-- F6: step out with update at track 0 wraps the track register. -/
theorem test_fdc_step_out :
    after (at4 [0xD3, 0xF0] (fun c => { c with a := 0x70 }))
      (fun t => t.fdc.status == 0x05 && t.fdc.track == 0xFF && t.drv[0].phys == 0) = true := by
  decide

/-- K1: the threshold of the cassette classification (R661). -/
theorem test_classify :
    [5000, 5001, -5000, -5001].map (fun n => classify (BitVec.ofInt 16 n)) =
      [.neutral, .positive, .neutral, .negative] := by decide

/-- Q1 to Q4: `!` queued, then reads of rows 4, 7, both and none. -/
def keyQ1 : State := (at4 [] id).keyAction (.ascii 0x21) true

theorem test_key_scan :
    keyQ1.readByte 0x3810 = 0x02 ∧
      [0x3880, 0x3890, 0x3800].map (keyQ1.afterRead 0x3810).readByte = [0x01, 0x03, 0x00] := by
  decide

/-- Z2: the reset button's outputs and latch. -/
def resetZ2 : State :=
  let s := at4 [0x00] (fun c => { c with sp := 0x8000, iff1 := true })
  { s with
    modeImage := 0x06
    fdc := { s.fdc with motorOn := true, motorTimeout := 9999 }
    cas := { s.cas with motor := true, state := .fail } }

theorem test_reset_button :
    resetZ2.resetButton.outputs =
        [.motorLight 0 false, .motorLight (-1) false, .expanded false] ∧
      resetZ2.resetButton.lat.nmiLatch = 0x20 ∧ resetZ2.resetButton.cpu = resetZ2.cpu := by decide

/-- Z3: the step after it runs the NOP, then takes the NMI. -/
theorem test_reset_nmi :
    after resetZ2.resetButton (fun t =>
      t.cpu.pc == 0x0066 && t.mem.get 0x7FFE == 0x01 && t.mem.get 0x7FFF == 0x40 &&
        t.cpu.iff2 && !t.cpu.iff1 && t.lat.nmiLatch == 0 && !t.lat.nmiSeen) = true := by decide

/-- S6: a breakpoint stops the machine before the instruction. -/
theorem test_breakpoint :
    after { at4 [0x00] id with breakpoints := [0x4000] } (fun t =>
      !t.running && t.outputs == [.breakpoint 0x4000] && t.clock == 0) = true := by decide

/-- A word placed by `withFetchWord` runs as the first instruction after reset. -/
theorem test_with_fetch_word :
    after (State.reset.withFetchWord 16 0x3E5A) (fun t =>
      t.cpu.a == 0x5A && t.cpu.pc == 0x0002 && t.clock == 7) = true := by decide

/-! ## Witnesses: for each statement with hypotheses, states and operands that meet them -/

theorem witness_DecodeOfEncode :
    (Instr.ldRHX .a).wf = true ∧ (Instr.negMirror 7).wf = true ∧ (Instr.im0Mirror 5).wf = true := by
  decide

theorem witness_EncodeOfDecode : decode [0xED, 0x4C, 0x00] = .ok (.negMirror 1) [0x00] := by decide

/-- `LD A,5Ah` at 4000, about to run. -/
def ldA : State := at4 [0x3E, 0x5A] id

theorem ldA_due : ldA.Due ldA := ⟨rfl, rfl, rfl, rfl, .inl (by decide)⟩

theorem witness_FetchReadsCode :
    (Instr.ldRN .a 0x5A).wf = true ∧ ldA.admits (.ldRN .a 0x5A) = true ∧
      ldA.CodeAt ldA.cpu.pc (encode (.ldRN .a 0x5A)) :=
  ⟨by decide, by decide, by decide, by decide, by decide, by decide, trivial⟩

/-- Without a ROM image the state after creation makes the first fetch of the rule (Z6). -/
theorem witness_FetchReadsCode_bare :
    State.reset.romSize = 0 ∧ State.reset.clock = 0 ∧ State.reset.cpu.pc = 0 ∧ ldA.cpu.pc ≠ 0 := by
  decide

/-- `ldA` stopped, with `boot` waiting. -/
def ldABooting : State := { ldA with running := false, inbox := [[.boot]] }

theorem ldABooting_due : ldABooting.Due { ldA with skipBreak := true } :=
  ⟨rfl, rfl, rfl, rfl, .inr rfl⟩

theorem witness_StepRunsDecoded :
    ldA.Due ldA ∧ ldABooting.Due { ldA with skipBreak := true } ∧
      ({ ldA with skipBreak := false } : State).fetch = .ok (.ldRN .a 0x5A, 2, ldA) :=
  ⟨ldA_due, ldABooting_due, rfl⟩

/-- `SLL B`, of the extended group, at 4000. -/
def sllB : State := at4 [0xCB, 0x30] id

/-- An ED hole at 4000. -/
def edHole : State := at4 [0xED, 0x00] id

/-- Both kinds of bytes that the step faults on. -/
theorem witness_DecodeRefusal :
    (∃ f, sllB.fetch = .error f) ∧ sllB.Due sllB ∧ sllB.CodeAt sllB.cpu.pc (encode (.sllR .b)) ∧
      sllB.cfg.undocExtended = false ∧ (Instr.sllR .b).wf = true ∧
      (Instr.sllR .b).extended = true ∧ edHole.Due edHole ∧
      edHole.CodeAt edHole.cpu.pc [0xED, 0x00] ∧ decode [0xED, 0x00] = .unknown ∧
      ∀ n, n < 2 → decode (([0xED, 0x00] : List Byte).take n) = .more :=
  ⟨⟨_, rfl⟩, ⟨rfl, rfl, rfl, rfl, .inl (by decide)⟩,
    ⟨by decide, by decide, by decide, by decide, trivial⟩, by decide, by decide, by decide,
    ⟨rfl, rfl, rfl, rfl, .inl (by decide)⟩, ⟨by decide, by decide, by decide, by decide, trivial⟩,
    by decide, by decide⟩

theorem witness_StepHeldBack :
    (∃ r, ({ ldA with fault := some .badWav } : State).fault = some r) ∧
      ({ ldA with shutDown := true } : State).shutDown = true ∧ ldA.fault = none ∧
      (∃ f, ({ ldA with inbox := [[.mountDisk 0 []]] } : State).drainInbox = .error f) ∧
      (∃ d, ({ ldA with running := false, inbox := [[.tron]] } : State).drainInbox = .ok d ∧
        d.running = false) ∧
      (∃ d, ({ ldA with inbox := [[.addBreakpoint 0x4000]] } : State).drainInbox = .ok d ∧
        d.running = true ∧ d.cpu.pc ∈ d.breakpoints ∧ d.skipBreak = false) :=
  ⟨⟨_, rfl⟩, rfl, rfl, ⟨_, rfl⟩, ⟨_, rfl, rfl⟩, ⟨_, rfl, rfl, by decide, rfl⟩⟩

/-- A memory with 11 at both ends of ROM, screen and RAM, ROM_SIZE = 3000, a key of row 0 down. -/
def regions : State :=
  let m := [0x0000, 0x2FFF, 0x3C00, 0x3FFF, 0x4000, 0xFFFF].foldl (fun m a => Memory.set m a 0x11) []
  { at4 [] id with mem := m, kbd := { Keyboard.cleared with rows := Vector.replicate 8 0x02 } }

/-- Every clause at both ends of its range. -/
theorem witness_MemoryRead :
    [0x0000, 0x2FFF, 0x3C00, 0x3FFF, 0x4000, 0xFFFF].map regions.readByte =
        [0x11, 0x11, 0x11, 0x11, 0x11, 0x11] ∧
      [0x3801, 0x38FF].map regions.readByte = [0x02, 0x02] ∧
      [0x3800, 0x37E8].map regions.readByte = [0x00, 0x30] ∧
      [0x3000, 0x37E7, 0x37E9, 0x37FF, 0x3900, 0x3BFF].map regions.readByte =
        [0xFF, 0xFF, 0xFF, 0xFF, 0xFF, 0xFF] := by decide

/-- Writes at both ends of every range: dropped, or stored, with an output on the screen. -/
theorem witness_MemoryWrite :
    [0x0000, 0x2FFF, 0x3000, 0x37E8, 0x3800, 0x38FF, 0x3BFF].map
        (fun a => (regions.memWrite a 0x22).mem.get a.toNat) =
      [0x11, 0x11, 0x00, 0x00, 0x00, 0x00, 0x00] ∧
      [0x3C00, 0x3FFF, 0x4000, 0xFFFF].map (fun a => (regions.memWrite a 0x22).mem.get a.toNat) =
        [0x22, 0x22, 0x22, 0x22] ∧
      [0x3BFF, 0x3C00, 0x3FFF, 0x4000].map (fun a => (regions.memWrite a 0x22).outputs.length) =
        [0, 1, 1, 0] := by decide

theorem witness_RamKeepsLastWrite :
    regions.romSize ≤ (0x4000 : Word).toNat ∧ 0x4000 ≤ (0x4000 : Word).toNat ∧
      regions.romSize ≤ (0xFFFF : Word).toNat ∧ (0x4001 : Word) ≠ 0x4000 := by decide

theorem witness_PushThenPop :
    regions.romSize ≤ ((0x4002 : Word) - 1).toNat ∧ 0x4000 ≤ ((0x4002 : Word) - 1).toNat ∧
      regions.romSize ≤ ((0x4002 : Word) - 2).toNat ∧ 0x4000 ≤ ((0x4002 : Word) - 2).toNat ∧
      0x4000 ≤ ((0x0000 : Word) - 1).toNat ∧ 0x4000 ≤ ((0x0000 : Word) - 2).toNat := by decide

theorem witness_WordAccess :
    regions.writable 0x3C00 = true ∧ regions.writable 0x3C01 = true ∧
      regions.writable 0xFFFF = true ∧ regions.writable (0xFFFF + 1) = false := by decide

theorem witness_SignedOverflow :
    (∃ t, exec (AluSource.instr .add (.imm 0x01)) ldA = .next t) ∧
      (AluOp.add = .add ∧ (1 : Int) = ldA.cpu.a.toInt + ((AluSource.imm 0x01).value ldA).toInt) :=
  ⟨⟨_, rfl⟩, by decide, by decide⟩

theorem witness_AddSubResult :
    (AluOp.adc = .adc ∧ 0 = (ldA.cpu.f.getLsbD 0).toNat) ∧
      (AluOp.sbc = .sbc ∧ 0 = (ldA.cpu.f.getLsbD 0).toNat) ∧ ldA.cfg.undocFlags = .formula := by
  decide

theorem witness_LogicResult :
    (AluOp.xor = .xor ∧ (0x0F : Byte) = ldA.cpu.a ^^^ (AluSource.imm 0x0F).value ldA) ∧
      (AluOp.and = .and ∧ (0x00 : Byte) = ldA.cpu.a &&& (AluSource.imm 0x0F).value ldA) ∧
      (AluOp.or = .or ∧ (0x0F : Byte) = ldA.cpu.a ||| (AluSource.imm 0x0F).value ldA) := by decide

theorem witness_BcdArithmetic : Bcd 0x00 ∧ Bcd 0x99 ∧ Bcd 0x90 ∧ Bcd 0x09 := by
  simp [Bcd]

theorem witness_DecimalAdjust : (0x00 : Byte).getLsbD 1 = false ∧ (0x02 : Byte).getLsbD 1 = true := by
  decide

theorem witness_Negate : Instr.negMirror 7 = .neg ∨ ∃ y, Instr.negMirror 7 = .negMirror y :=
  .inr ⟨7, rfl⟩

theorem witness_AccumulatorRotates :
    (Instr.rra = .rra ∧ 0 = ldA.cpu.a.toNat / 2 + 128 * (ldA.cpu.f.getLsbD 0).toNat ∧
        false = ldA.cpu.a.getLsbD 0) ∧
      (Instr.rld = .rld ∧
        0 = 16 * ((ldA.readByte ldA.cpu.hl).toNat % 16) + ldA.cpu.a.toNat % 16 ∧
        0 = 16 * (ldA.cpu.a.toNat / 16) + (ldA.readByte ldA.cpu.hl).toNat / 16) := by decide

theorem witness_VectorAndRefresh :
    ({ ldA with cfg := { ldA.cfg with rPolicy := .count } } : State).cfg.rPolicy = .count := by
  decide

theorem witness_formula :
    ldA.cfg.undocFlags = .formula ∧
      (Instr.bitBAtIXdMirror 3 0xFE .h = .bitBAtIXd 3 0xFE ∨
        ∃ r, Instr.bitBAtIXdMirror 3 0xFE .h = .bitBAtIXdMirror 3 0xFE r) :=
  ⟨rfl, .inr ⟨.h, rfl⟩⟩

/-- Every condition holds at one F and fails at another. -/
theorem witness_Jumps :
    [Cond.z, .c, .pe, .m].map (fun cc => (condHolds cc 0xFF, condHolds cc 0x00)) =
        [(true, false), (true, false), (true, false), (true, false)] ∧
      [Cond.nz, .nc, .po, .p].map (fun cc => (condHolds cc 0x00, condHolds cc 0xFF)) =
        [(true, false), (true, false), (true, false), (true, false)] := by decide

theorem witness_CallsReturns :
    condHolds .pe 0x04 = true ∧ condHolds .pe 0xFB = false ∧ condHolds .po 0xFB = true ∧
      condHolds .po 0x04 = false := by decide

/-- Every clause of the port statements at both ends of its range: no two clauses meet. -/
theorem witness_PortReads :
    [0x00, 0xDF, 0xE1, 0xE3, 0xE5, 0xE7].map decodePort =
        [.unknown, .unknown, .unknown, .unknown, .unknown, .unknown] ∧
      [0xE0, 0xE4, 0xE8, 0xEB, 0xEC, 0xEF].map decodePort =
        [.irq, .nmi, .uart, .uart, .mode, .mode] ∧
      [0xF0, 0xF1, 0xF2, 0xF3, 0xF4, 0xF7].map decodePort =
        [.fdcStatus, .fdcTrack, .fdcSector, .fdcData, .fdcSelect, .fdcSelect] ∧
      [0xF8, 0xFB, 0xFC, 0xFF].map decodePort = [.printer, .printer, .cassette, .cassette] := by
  decide

/-- A JV1 drive under a running motor (its contents do not matter), the timeout at `n`. -/
def jv1Drive (n : Nat) : State :=
  { ldA with
    drv := ldA.drv.set 0 { Drive.empty with kind := .jv1, image := [0x11, 0x22] }
    fdc := { Fdc.cleared with motorOn := true, motorTimeout := n } }

/-- What a status read gives, and the motor and the NMI latch after it. -/
def statusOf (s : State) : Option (Byte × Bool × Byte) :=
  match s.ioRead 0xF0 with
  | .ok (v, t) => some (v, t.fdc.motorOn, t.lat.nmiLatch)
  | .error _ => none

/-- F1, F23, F24, F25 and F22: outside and inside the index window, no disk, and a timeout that has
elapsed; then a command of Type II. -/
theorem witness_PortReads_status :
    statusOf { jv1Drive 999999 with clock := 4055 } = some (0x40, true, 0x00) ∧
      statusOf { jv1Drive 999999 with clock := 405504 + 4054 } = some (0x42, true, 0x00) ∧
      statusOf { jv1Drive 999999 with drv := ldA.drv } = some (0x00, true, 0x00) ∧
      statusOf { jv1Drive 5000 with clock := 5000, lat := ⟨0, 0, 0x20, 0x80, false⟩ } =
        some (0x40, false, 0x40) ∧
      statusOf { jv1Drive 5000 with fdc := { Fdc.cleared with command := 0x80, status := 0x03 } } =
        some (0x03, false, 0x00) := by decide

/-- Reads at the ends of the ranges, through the router. -/
theorem witness_PortReads_values :
    [0xE0, 0xE4, 0xE8, 0xEB, 0xEC, 0xEF, 0xF1, 0xF2, 0xF8, 0xFB, 0xFC, 0xFF].map
        (fun p => match ldA.ioRead p with
          | .ok (v, _) => some v
          | .error _ => none) =
      [some 0xFF, some 0xFF, some 0xFF, some 0xFF, some 0xFF, some 0xFF, some 0x00, some 0x00,
        some 0x30, some 0x30, some 0x00, some 0x00] := by decide

theorem witness_PortWrites :
    ldA.cfg.unknownPorts = .fatal ∧
      ({ ldA with cfg := { ldA.cfg with unknownPorts := .float } } : State).cfg.unknownPorts = .float ∧
      [0xE8, 0xEB, 0xF8, 0xFB].map (fun p => match ldA.ioWrite p 0x55 with
        | .ok t => t == ldA
        | .error _ => false) = [true, true, true, true] := by decide

/-- A WAV file of `channels` channels, 44,100 samples a second, 16 bits, the samples 6000 and
-6000, and `more` after its chunks. -/
def wav (channels : Byte) (more : List Byte) : List Byte :=
  tagRiff ++ [0, 0, 0, 0] ++ tagWave ++
    tagFmt ++ [16, 0, 0, 0, 1, 0, channels, 0, 0x44, 0xAC, 0, 0, 0, 0, 0, 0, 2, 0, 16, 0] ++
    tagData ++ [4, 0, 0, 0, 0x70, 0x17, 0x90, 0xE8] ++ more

/-- R664: every chunk is checked, those after the data too; other chunks are skipped. -/
theorem test_parse_wav :
    parseWav (wav 1 []) = some ⟨⟨1, 1, 44100, 16⟩, [0x1770, 0xE890]⟩ ∧
      (parseWav (wav 2 [])).isSome = true ∧
      parseWav (wav 1 [0x4C, 0x49, 0x53, 0x54, 2, 0, 0, 0, 7, 7]) = parseWav (wav 1 []) ∧
      parseWav (wav 1 [0x4C, 0x49, 0x53, 0x54, 3, 0, 0, 0, 7, 7]) = none ∧
      parseWav ((wav 1 []).take 36) = none ∧ parseWav ((wav 1 []).drop 1) = none := by decide

/-- A machine whose cassette source is `src`, before `OUT (EC)` turns the motor on (K5 to K7). -/
def tapeAt (src : Option (List Byte)) : State :=
  { ldA with
    lat := { ldA.lat with irqMask := 0x01 }, cas := { Cassette.cleared with source := src } }

/-- The cassette state after 02 is written to EC, and the kick-off; none when the write faults. -/
def motorOn (src : Option (List Byte)) : Option (CasState × List Nat) :=
  match (tapeAt src).ioWrite 0xEC 0x02 with
  | .ok t => some (t.cas.state, t.events.map Event.fireClock)
  | .error _ => none

theorem witness_PortWrites_motor :
    motorOn none = some (.fail, [2027520]) ∧
      motorOn (some (wav 1 [])) = some (.read, [2027520]) ∧ motorOn (some (wav 2 [])) = none := by
  decide

theorem witness_InputForms :
    ldA.InAdmitted 0x00E0 ∧ ldA.InAdmitted 0x12FF ∧ ¬ldA.InAdmitted 0x00F4 ∧
      ¬ldA.InAdmitted 0x00DF :=
  ⟨.inr (by decide), .inr (by decide),
    by simp only [State.InAdmitted]; decide, by simp only [State.InAdmitted]; decide⟩

theorem witness_OutputForms :
    ldA.OutAdmitted 0x00E0 0xFF ∧ ldA.OutAdmitted 0x00F0 0x9F ∧ ldA.OutAdmitted 0x00F0 0xD0 ∧
      ldA.OutAdmitted 0x00EC 0x02 ∧ decodePort 0xE1 = .unknown := by
  refine ⟨⟨by decide, ?_, ?_⟩, ⟨by decide, ?_, ?_⟩, ⟨by decide, ?_, ?_⟩, ⟨by decide, ?_, ?_⟩,
    by decide⟩
  · exact fun h => absurd h (by decide)
  · exact fun h => absurd h (by decide)
  · exact fun _ => .inl (by decide)
  · exact fun h => absurd h (by decide)
  · exact fun _ => .inr ⟨by decide, by decide⟩
  · exact fun h => absurd h (by decide)
  · exact fun h => absurd h (by decide)
  · exact fun _ _ _ _ w h => by cases h

/-- What an instruction that stops reports, and the state it leaves. -/
def stopOf (i : Instr) (s : State) : Option (FatalReason × State) :=
  match exec i s with
  | .fault (.fatal r t) => some (r, t)
  | .next _ | .refused _ => none

/-- The block forms on port DF: the input stops before anything else, the output with B down and
the key that its read of HL took from the queue. -/
theorem witness_BlockInput_stop :
    let s : State := { keyQ1 with cpu := { keyQ1.cpu with b := 0x02, c := 0xDF, h := 0x38, l := 0x10 } }
    ¬s.InAdmitted s.cpu.bc ∧ s.cfg.unknownPorts = .fatal ∧ decodePort s.cpu.c = .unknown ∧
      stopOf .ini s = some (.unknownPortIn 0xDF, { s with fault := some (.unknownPortIn 0xDF) }) ∧
      (stopOf .otdr s).map (fun p => (p.1, p.2.cpu.b, p.2.cpu.hl, p.2.kbd.queue)) =
        some (.unknownPortOut 0xDF, 0x01, 0x3810, []) :=
  ⟨by simp only [State.InAdmitted]; decide, by decide, by decide, by decide, by decide⟩

/-- A fault of the port write other than an unknown port: a refused disk command. -/
theorem witness_BlockOutput_fault :
    let s : State := { ldA with cpu := { ldA.cpu with b := 0x02, c := 0xF0, h := 0x40, l := 0x00 } }
    (stopOf .outi { s with mem := s.mem.set 0x4000 0xA0 }).map (fun p => (p.1, p.2.cpu.b)) =
      some (.fdcUnsupportedCommand 0xA0, 0x01) := by decide

theorem witness_BlockInput : ldA.InAdmitted ({ ldA.cpu with b := 0x02, c := 0xF3 } : Regs).bc :=
  .inr (by decide)

theorem witness_BlockOutput :
    ldA.OutAdmitted (pair 0x01 0xE8) (ldA.readByte ldA.cpu.hl) := by
  refine ⟨by decide, ?_, ?_⟩
  · exact fun h => absurd h (by decide)
  · exact fun h => absurd h (by decide)

theorem witness_ClockLaw : ∃ t, exec .nop ldA = .next t := ⟨_, rfl⟩

theorem witness_AlternateSet :
    Instr.nop ≠ .exAFAF' ∧ Instr.nop ≠ .exx ∧ ∃ t, exec .nop ldA = .next t :=
  ⟨by decide, by decide, _, rfl⟩

theorem witness_ControlStateWriters :
    (∃ t, exec .ei ldA = .next t ∧ t.cpu.iff1 ≠ ldA.cpu.iff1 ∧ t.cpu.iff2 ≠ ldA.cpu.iff2 ∧
        t.cpu.eiShadow ≠ ldA.cpu.eiShadow) ∧
      (∃ t, exec .halt ldA = .next t ∧ t.cpu.halted ≠ ldA.cpu.halted) ∧
      (∃ t, exec .im1 ldA = .next t ∧ t.cpu.im ≠ ldA.cpu.im) :=
  ⟨⟨_, rfl, by decide, by decide, by decide⟩, ⟨_, rfl, by decide⟩, ⟨_, rfl, by decide⟩⟩

/-- The invariant at a state with an event and a key queued and a suppressed NMI pending. -/
def busy : State :=
  let s := (at4 [0x00] id).schedule 0x01 100 (.diskDone 0x01)
  { s.keyAction (.cell 7 1 .neutral) true with lat := ⟨0x05, 0x07, 0xA0, 0x80, true⟩ }

theorem busy_inv : busy.Inv where
  memWf := by decide
  initedWf := by decide
  resetBit := by decide
  suppressed := by decide
  irqBits := by decide
  nmiBits := by decide
  heads := by decide
  ready := by decide
  empty2 := by decide
  empty3 := by decide
  sorted := by decide
  seqs := by decide
  kinds := by decide
  keys := ⟨by decide, by decide⟩

theorem witness_StepKeepsInv : busy.Inv ∧ ∃ t, step busy = .next t := ⟨busy_inv, _, rfl⟩

theorem witness_RomNeverChanges :
    (∃ t, step ldA = .next t) ∧ 0x2FFF < ldA.romSize ∧ ∃ t, step ldABooting = .next t :=
  ⟨⟨_, rfl⟩, by decide, _, rfl⟩

/-- A tape being replayed, with the first of its two samples due. -/
def replaying : State :=
  { ldA with
    clock := 2027520
    cas := { Cassette.cleared with
      motor := true, state := .read, tape := ⟨1, [BitVec.ofInt 16 10000, BitVec.ofInt 16 (-10000)]⟩ } }

theorem witness_DispatchRunsDue_head :
    (∃ e rest, ({ busy with clock := 100 } : State).events = e :: rest ∧ e.fireClock ≤ 100) ∧
      (∃ e rest, busy.events = e :: rest ∧ busy.clock < e.fireClock) ∧
      replaying.cas.motor = true ∧ ldA.cas.motor = false :=
  ⟨⟨_, _, rfl, by decide⟩, ⟨_, _, rfl, by decide⟩, rfl, rfl⟩

theorem witness_DispatchRunsDue :
    busy.Inv ∧ (∃ e ∈ busy.events, busy.clock < e.fireClock) ∧
      (∃ e ∈ ({ busy with clock := 100 } : State).events,
        ¬({ busy with clock := 100 } : State).clock < e.fireClock) :=
  ⟨busy_inv, ⟨⟨0x01, 100, 0, .diskDone 0x01⟩, by decide, by decide⟩,
    ⟨⟨0x01, 100, 0, .diskDone 0x01⟩, by decide, by decide⟩⟩

theorem witness_QueueOperations :
    busy.Inv ∧ (∃ e ∈ busy.events, e.kind &&& 0x06 = 0) ∧ ∃ e ∈ busy.events, e.kind &&& 0x07 ≠ 0 :=
  ⟨busy_inv, ⟨⟨0x01, 100, 0, .diskDone 0x01⟩, by decide, by decide⟩,
    ⟨⟨0x01, 100, 0, .diskDone 0x01⟩, by decide, by decide⟩⟩

theorem witness_ResetInv : Memory.wf [(0x4000, 0x11), (0xFFFF, 0x22)] = true := by decide

theorem witness_NmiEntryEffect :
    let s := irqPending .im1 ⟨4, 4, 0xA0, 0x80, false⟩
    s.lat.nmiMask &&& s.lat.nmiLatch ≠ 0 ∧ s.lat.nmiSeen = false ∧
      s.writable (s.cpu.sp - 1) = true ∧ s.writable (s.cpu.sp - 2) = true := by decide

/-- A HALT at 4000 under HALT_RESUME = opcode_at_pc, the NMI pending. -/
def haltAtPc : State :=
  let s := at4 [0x76] (fun c => { c with sp := 0x8000 })
  { s with
    cfg := { s.cfg with haltResume := .opcodeAtPc }
    lat := { s.lat with nmiMask := 0xA0, nmiLatch := 0x80 } }

/-- The byte at PC alone sends the return address past the HALT. -/
theorem witness_NmiEntryEffect_opcode :
    haltAtPc.cpu.halted = false ∧ haltAtPc.readByte haltAtPc.cpu.pc = 0x76 ∧
      (match haltAtPc.interruptCheck with
        | .ok t => t.readWord t.cpu.sp == 0x4001
        | .error _ => false) = true := by decide

theorem witness_IrqEntryEffect :
    let s := irqPending .im1 ⟨4, 4, 0x20, 0, false⟩
    let u := irqPending .im2 ⟨4, 4, 0x20, 0, false⟩
    s.lat.nmiMask &&& s.lat.nmiLatch = 0 ∧ s.lat.irqMask &&& s.lat.irqLatch ≠ 0 ∧
      s.cpu.iff1 = true ∧ s.cpu.eiShadow = false ∧ s.cpu.im = .im1 ∧ u.cpu.im ≠ .im1 ∧
      ldA.lat.irqMask &&& ldA.lat.irqLatch = 0 := by decide

theorem witness_TimerTick :
    (({ ldA with clock := 67583 } : State).clock < ldA.nextTimer) ∧
      ldA.nextTimer ≤ ({ ldA with clock := 67584 } : State).clock ∧ ldA.fdc.motorOn = false ∧
      resetZ2.fdc.motorOn = true ∧
      resetZ2.fdc.motorTimeout ≤ ({ resetZ2 with clock := 67584 } : State).clock := by decide

theorem witness_KeyboardDequeue :
    keyQ1.kbd.queue = [⟨4, 1, .forceDown, true⟩] ∧ keyQ1.kbd.nextClock ≤ keyQ1.clock ∧
      ldA.kbd.queue = [] ∧ 39999 < (keyQ1.afterRead 0x3810).kbd.nextClock ∧
      (keyQ1.afterRead 0x3810).kbd.nextClock ≤ 40000 := by decide

theorem witness_DriveSelect :
    (0xF0 : Byte) &&& 0x0F = 0 ∧
      ∀ n : Fin 4, (bitMask (⟨n.val, by omega⟩ : Fin 8)).getLsbD n.val = true ∧
        ∀ m : Fin 4, m < n → (bitMask (⟨n.val, by omega⟩ : Fin 8)).getLsbD m.val = false := by decide

/-- The descriptors of vector J1. -/
def jv3Image : List Byte := [1, 1, 0x00, 0, 5, 0x01, 0, 6, 0x88, 0, 7, 0x60]

/-- The tables of vector J1. The vector's other slots are unused, so four slots are scanned. -/
def jv3J1 : Jv3Tables := jv3Tables (jv3Blocks jv3Image 4)

theorem test_jv3_load :
    jv3J1.offset.take 4 = [8704, 8960, 9088, 9344] ∧ jv3J1.sortedId = [1, 2, 3, 0, 4] ∧
      [(0, false), (1, false), (0, true), (2, false), (254, false)].map
          (fun p => jv3J1.startOf p.1 p.2) = [some 0, some 3, none, none, none] := by decide

/-- The machine of section 4.3 of the vectors after one command: a drive of this kind, and the
controller as `g` leaves it. -/
def commanded (k : DriveKind) (g : Fdc → Fdc) (c : Byte) (phys : Nat := 0) : Except Fault State :=
  let s := jv1Drive 4055040
  ({ s with drv := s.drv.set 0 ⟨k, phys, [], jv3J1⟩, fdc := g s.fdc } : State).fdcCommand c

/-- The status, the track register and the head after it; none when it faults. -/
def statusAfter (r : Except Fault State) : Option (Byte × Byte × Nat) :=
  match r with
  | .ok t => some (t.fdc.status, t.fdc.track, t.drv[0].phys)
  | .error _ => none

/-- Commands at the ends of each range (F1, F3 to F8, F19, F25, J1). -/
theorem witness_DiskCommands :
    [0xA0, 0xCF, 0xE0, 0xFF].map (fun c => statusAfter (commanded .jv1 id c)) =
        [none, none, none, none] ∧
      statusAfter (commanded .jv1 id 0x08) = some (0x25, 0, 0) ∧
      statusAfter (commanded .jv1 (fun f => { f with data := 0x0A }) 0x10) = some (0x01, 10, 10) ∧
      statusAfter (commanded .jv1 (fun f => { f with track := 5, data := 8 }) 0x14 3) =
        some (0x11, 8, 6) ∧
      [0x60, 0x70, 0x50, 0x20, 0x3F].map (fun c => statusAfter (commanded .jv1 id c)) =
        [some (0x05, 0, 0), some (0x05, 0xFF, 0), some (0x01, 1, 1), some (0x01, 0, 1),
          some (0x21, 1, 1)] := by decide

/-- Verify: JV1 at double density, JV3 with a sector on the track, and JV3 with none. -/
theorem witness_DiskCommands_verify :
    statusAfter (commanded .jv1 (fun f => { f with density := true }) 0x0C) = some (0x35, 0, 0) ∧
      statusAfter (commanded .jv3 id 0x0C) = some (0x25, 0, 0) ∧
      statusAfter (commanded .jv3 (fun f => { f with side := true }) 0x0C) = some (0x35, 0, 0) ∧
      (∃ i e, jv3J1.Finds 0 false (fun _ => True) i e) :=
  ⟨by decide, by decide, by decide,
    ⟨1, ⟨0, 5, 0x01⟩, 0, 0, by decide, by decide, by decide, ⟨by decide, by decide⟩, trivial,
      by decide, by decide, fun m h k => absurd k (Nat.not_lt.2 h)⟩⟩

/-- F17 and F18: force interrupt with and without its immediate bit, on a pending, suppressed
IntRq. -/
theorem witness_DiskCommands_force :
    [0xD8, 0xD0].map (fun c => match ({ ldA with lat := ⟨0, 0, 0xA0, 0x80, true⟩ } : State).fdcCommand
        c with
      | .ok t => some (t.fdc.status, t.lat.nmiLatch, t.lat.nmiSeen)
      | .error _ => none) = [some (0x00, 0x80, false), some (0x00, 0x00, false)] := by decide

/-- The status, byte count and offset after a read command; none when it faults. -/
def found (r : Except Fault State) : Option (Byte × Nat × Nat) :=
  match r with
  | .ok t => some (t.fdc.status, t.fdc.byteCount, t.fdc.dataOffset)
  | .error _ => none

/-- F9 to F14: an empty drive, then JV1 at both ends of the sector and track ranges. -/
theorem witness_SectorRead :
    found (commanded .none id 0x80) = some (0x10, 0, 0) ∧
      found (commanded .jv1 (fun f => { f with side := true }) 0x80) = some (0x10, 0, 0) ∧
      found (commanded .jv1 (fun f => { f with sector := 9, track := 34 }) 0x80 34) =
        some (0x01, 256, 89344) ∧
      found (commanded .jv1 (fun f => { f with sector := 10 }) 0x9F) = some (0x10, 0, 0) ∧
      found (commanded .jv1 (fun f => { f with track := 35 }) 0x80 35) = some (0x10, 0, 0) ∧
      found (commanded .jv1 (fun f => { f with track := 1 }) 0x80) = some (0x10, 0, 0) := by decide

/-- The read of sector `n` of vector J1. -/
def readJ1 (n : Byte) (density side : Bool) (phys : Nat) (c : Byte) : Option (Byte × Nat × Nat) :=
  found (commanded .jv3 (fun f => { f with sector := n, density := density, side := side }) c phys)

/-- The searches of vector J1. -/
theorem witness_SectorRead_jv3 :
    readJ1 5 false false 0 0x80 = some (0x01, 128, 8960) ∧
      readJ1 6 false false 0 0x80 = some (0x10, 0, 0) ∧
      readJ1 6 true false 0 0x80 = some (0x09, 256, 9088) ∧
      readJ1 7 false false 0 0x80 = some (0x21, 256, 9344) ∧
      readJ1 5 false false 2 0x80 = some (0x10, 0, 0) ∧
      readJ1 5 false true 0 0x80 = some (0x10, 0, 0) ∧
      readJ1 5 false false 0 0x8A = some (0x10, 0, 0) := by decide

/-- Sector 6 at double density is the second entry of track 0, side 0. -/
theorem witness_SectorRead_finds :
    jv3J1.Finds 0 false (fun e => e.sector = 6 ∧ e.flags.getLsbD 7 = true) 2 ⟨0, 6, 0x88⟩ :=
  ⟨0, 1, by decide, by decide, by decide, ⟨by decide, by decide⟩, by decide, by decide, by decide,
    fun m _ h => ⟨1, ⟨0, 5, 0x01⟩, by
      obtain rfl : m = 0 := Nat.lt_one_iff.1 h
      exact ⟨⟨by decide, by decide⟩, by decide, by decide, by decide⟩⟩⟩

/-- Bytes left to read: two, then one. -/
def reading (n : Nat) : State :=
  let s := jv1Drive 0
  { s with fdc := { s.fdc with command := 0x80, status := 0x03, byteCount := n } }

theorem witness_DataRead :
    commandType (reading 2).fdc.command = .typeII ∧ (reading 2).fdc.status.getLsbD 1 = true ∧
      0 < (reading 1).fdc.byteCount ∧ 1 < (reading 2).fdc.byteCount ∧
      ¬0 < (reading 0).fdc.byteCount ∧ commandType ldA.fdc.command ≠ .typeII := by decide

theorem test_data_read :
    (reading 2).dataRead = 0x11 ∧ (reading 0).dataRead = 0x00 ∧
      (reading 1).afterDataRead.fdc.status = 0x01 := by decide

/-- One sample of the two is due: its edge sets the flip-flop and raises the rise bit. -/
theorem test_cassette_update :
    replaying.cassetteUpdate.cas.flipflop = true ∧ replaying.cassetteUpdate.cas.last = .positive ∧
      replaying.cassetteUpdate.cas.lastNonNeutral = .positive := by decide

theorem witness_CassetteReplay :
    replaying.cas.motor = true ∧ replaying.cas.state = .read ∧
      replaying.cas.samplesRead ≤ replaying.cas.tape.samples.length ∧
      replaying.cassetteUpdate.cas.samplesRead = 1 ∧ replaying.cassetteUpdate.lat.irqLatch = 0x01 ∧
      ¬(ldA.cas.motor = true ∧ ldA.cas.state = .read) := by decide

/-- Mounts of a length that is none, keys inside and outside the map, and a machine shut down. -/
theorem witness_HostActions :
    ([] : List Byte).length ≠ 89600 ∧ ([] : List Byte).length ≠ 193024 ∧
      ([] : List Byte).length ≠ 377344 ∧ (List.replicate 89600 (0 : Byte)).length = 89600 ∧
      (List.replicate 193024 (0 : Byte)).length = 193024 ∧ ldABooting.inbox = [[.boot]] ∧
      ldA.inbox = [] ∧ ldA.shutDown = false ∧ ({ ldA with shutDown := true } : State).shutDown = true ∧
      (HostKey.ascii 0x21).toCell = some (4, 1, .forceDown) ∧ (HostKey.ascii 0x7F).toCell = none ∧
      (HostKey.cell 7 1 .forceUp).toCell = some (7, 1, .forceUp) ∧
      (HostKey.cell 3 3 .neutral).toCell = none :=
  ⟨by decide, by decide, by decide, List.length_replicate, List.length_replicate, rfl, rfl, rfl, rfl,
    by decide, by decide, by decide, by decide⟩

/-- R695: a press of a cell marked – sets nothing; one of a cell with a legend is queued. -/
theorem test_no_legend :
    [(3, 2), (3, 3), (3, 7), (7, 1), (7, 2), (7, 7)].map
        (fun p => (ldA.keyAction (.cell p.1 p.2 .forceUp) true).kbd.queue.length) =
      [1, 0, 0, 1, 0, 0] := by decide

end Sys2Proof.Tests
end

section
/-! The machine invariant: its parts, and that every stage of a step keeps them (O46). -/

namespace Sys2Proof.Machine

variable {s t : State}

/-- The invariant is the device part, the two canonical forms and the keyboard cells. -/
theorem State.inv_iff :
    s.Inv ↔ DevOk s ∧ s.mem.wf = true ∧ initedWf s.inited = true ∧ s.kbd.Legends where
  mp h := ⟨⟨⟨h.resetBit, h.suppressed, h.irqBits, h.nmiBits⟩, h.heads, h.ready, h.empty2, h.empty3,
    ⟨h.sorted, h.seqs, h.kinds⟩⟩, h.memWf, h.initedWf, h.keys⟩
  mpr := fun ⟨dev, mem, inited, keys⟩ =>
    { memWf := mem, initedWf := inited
      resetBit := dev.lat.resetBit, suppressed := dev.lat.suppressed
      irqBits := dev.lat.irqBits, nmiBits := dev.lat.nmiBits
      heads := dev.heads, ready := dev.ready, empty2 := dev.empty2, empty3 := dev.empty3
      sorted := dev.queue.sorted, seqs := dev.queue.seqs, kinds := dev.queue.kinds
      keys := keys }

/-- Outside the devices it is enough that the stage is `Onward`. -/
theorem State.Inv.onward (h : s.Inv) (dev : DevOk s → DevOk t) (on : Onward s t) : t.Inv := by
  obtain ⟨hd, hm, hi, hk⟩ := State.inv_iff.1 h
  exact State.inv_iff.2 ⟨dev hd, on.memWf hm, on.initedWf hi, on.keys hk⟩

/-- Host actions at the step boundary keep the invariant (R542). -/
theorem State.Inv.drainInbox (h : s.Inv) (hx : s.drainInbox = .ok t) : t.Inv :=
  h.onward (·.drainInbox hx) (.drainInbox hx)

theorem State.Inv.keeps (h : s.Inv) (k : Keeps s t) : t.Inv := h.onward (·.keeps k) k.onward

theorem State.Inv.exec (h : s.Inv) {i : Instr} (he : exec i s = .next t) : t.Inv :=
  h.onward (·.exec he) (.exec he)

theorem State.Inv.dispatch (h : s.Inv) : s.dispatch.Inv :=
  h.onward (·.dispatchN _) (dispatch_devices s).onward

theorem State.Inv.interruptCheck (h : s.Inv) (hi : s.interruptCheck = .ok t) : t.Inv :=
  h.onward (·.interruptCheck hi) (.interruptCheck hi)

theorem State.Inv.cassetteUpdate (h : s.Inv) : s.cassetteUpdate.Inv :=
  h.onward (·.cassetteUpdate) (.cassetteUpdate s)

theorem State.Inv.timerCheck (h : s.Inv) : s.timerCheck.Inv :=
  h.onward (·.timerCheck) (.timerCheck s)

/-- The machine stops or runs one instruction with the stages after it (R530, R543). -/
theorem State.Inv.runStep (h : s.Inv) (hr : s.runStep = .next t) : t.Inv := by
  rcases runStep_next hr with rfl | rfl | ⟨u, v, w, k, ⟨i, he⟩, hi, rfl⟩
  · exact h
  · exact h.onward (·.congr rfl rfl rfl rfl rfl) (.of_eq rfl rfl rfl rfl rfl rfl)
  · have h0 : ({ s with skipBreak := false } : State).Inv :=
      h.onward (·.congr rfl rfl rfl rfl rfl) (.of_eq rfl rfl rfl rfl rfl rfl)
    exact ((h0.keeps k).exec he).dispatch.interruptCheck hi |>.cassetteUpdate.timerCheck

/-- A step that answers a next state: nothing after a shutdown (R542), otherwise the host actions
and the step proper. -/
theorem step_next (h : step s = .next t) :
    t = s ∨ ∃ d, s.drainInbox = .ok d ∧ d.runStep = .next t := by
  unfold step at h
  split at h
  · cases h
  · split at h
    · injection h with h
      exact .inl h.symm
    · split at h
      · cases h
      · rename_i d hd
        exact .inr ⟨d, hd, h⟩

/-- Settles O46: the host actions and each stage of the step keep the invariant. -/
theorem stepKeepsInv : Obligations.StepKeepsInv := by
  intro s t h hs
  rcases step_next hs with rfl | ⟨d, hd, hr⟩
  · exact h
  · exact (h.drainInbox hd).runStep hr

end Sys2Proof.Machine
end

section
/-! The register file (O12). -/

namespace Sys2Proof.Machine

/-- The reset button resets devices and leaves the CPU alone (R712). -/
@[simp] theorem State.resetButton_cpu (s : State) : s.resetButton.cpu = s.cpu := by
  have emitIf (u : State) (b : Bool) (o : Output) : (u.emitIf b o).cpu = u.cpu := by cases b <;> rfl
  change (State.emitIf _ _ _).cpu = s.cpu
  simp only [emitIf]

/-- Settles O12: the laws of the register file, and the CPU at power-on and after the button. -/
theorem registerFile : Obligations.RegisterFile := by
  refine ⟨fun c w => ?_, fun c v => ?_, rfl, ?_, State.resetButton_cpu⟩
  · exact ⟨rfl, rfl, rfl, rfl, c.af_setAF w, rfl, c.bc_setBC w, rfl, c.de_setDE w, rfl,
      c.hl_setHL w, rfl⟩
  · exact ⟨rfl, rfl, rfl, rfl, rfl, rfl, rfl, fun r => c.get_set v r⟩
  · exact ⟨rfl, rfl, rfl, rfl⟩

end Sys2Proof.Machine
end

section
/-! Memory, keyboard and devices do not read the CPU: each operation on them commutes with a change
of the CPU record. -/

namespace Sys2Proof.Machine

variable (s : State) (d : Regs) {t : State}

theorem ite_setCpu {p : Prop} [Decidable p] (x y : State) :
    (if p then x else y).setCpu d = if p then x.setCpu d else y.setCpu d :=
  apply_ite (State.setCpu · d) p x y

/-! ### Memory and the keyboard -/

@[simp] theorem State.afterRead_setCpu (a : Word) :
    (s.setCpu d).afterRead a = (s.afterRead a).setCpu d := s.afterRead_withCpu d a

@[simp] theorem State.readByte_setCpu (a : Word) : (s.setCpu d).readByte a = s.readByte a :=
  s.readByte_withCpu d a

@[simp] theorem State.afterReadWord_setCpu (a : Word) :
    (s.setCpu d).afterReadWord a = (s.afterReadWord a).setCpu d := by
  simp only [State.afterReadWord, State.afterRead_setCpu]

@[simp] theorem State.readWord_setCpu (a : Word) : (s.setCpu d).readWord a = s.readWord a := by
  simp only [State.readWord, State.afterRead_setCpu, State.readByte_setCpu]

@[simp] theorem State.memWrite_setCpu (a : Word) (v : Byte) :
    (s.setCpu d).memWrite a v = (s.memWrite a v).setCpu d := by
  unfold State.memWrite
  rw [State.region_congr (s.setCpu_romSize d) a]
  cases s.region a <;> rfl

@[simp] theorem State.memWriteWord_setCpu (a w : Word) :
    (s.setCpu d).memWriteWord a w = (s.memWriteWord a w).setCpu d := by
  simp only [State.memWriteWord, State.memWrite_setCpu]

/-! ### Small updates of the devices -/

theorem State.emit_setCpu (o : Output) :
    (s.setCpu d).emit o = (s.emit o).setCpu d := rfl
theorem State.clearNmi_setCpu (m : Byte) :
    (s.setCpu d).clearNmi m = (s.clearNmi m).setCpu d := rfl
theorem State.schedule_setCpu (k : Byte) (n : Nat) (x : EventAction) :
    (s.setCpu d).schedule k n x = (s.schedule k n x).setCpu d := rfl
theorem State.cancel_setCpu (m : Byte) :
    (s.setCpu d).cancel m = (s.cancel m).setCpu d := rfl
theorem State.setStatus_setCpu (v : Byte) :
    (s.setCpu d).setStatus v = (s.setStatus v).setCpu d := rfl
theorem State.withFdc_setCpu (f : Fdc) :
    ({ s.setCpu d with fdc := f } : State) = ({ s with fdc := f } : State).setCpu d := rfl
theorem State.withCas_setCpu (c : Cassette) :
    ({ s.setCpu d with cas := c } : State) = ({ s with cas := c } : State).setCpu d := rfl
theorem State.cur_setCpu : (s.setCpu d).cur = s.cur := rfl
theorem State.searchSector_setCpu (n : Option Nat) (side : Option Bool) :
    (s.setCpu d).searchSector n side = s.searchSector n side := rfl

/-! ### The disk controller -/

theorem State.checkDiskMotorOff_setCpu :
    (s.setCpu d).checkDiskMotorOff = s.checkDiskMotorOff.setCpu d := by
  unfold State.checkDiskMotorOff
  rw [ite_setCpu]
  rfl

theorem State.afterStatusRead_setCpu :
    (s.setCpu d).afterStatusRead = s.afterStatusRead.setCpu d :=
  congrArg (State.clearNmi · 0x80) (s.checkDiskMotorOff_setCpu d)

theorem State.statusRead_setCpu : (s.setCpu d).statusRead = s.statusRead := by
  unfold State.statusRead
  rw [s.afterStatusRead_setCpu d]
  rfl

theorem State.afterDataRead_setCpu : (s.setCpu d).afterDataRead = s.afterDataRead.setCpu d := by
  simp only [State.afterDataRead, ite_setCpu]
  rfl

theorem State.dataRead_setCpu : (s.setCpu d).dataRead = s.dataRead :=
  congrArg (·.fdc.data) (s.afterDataRead_setCpu d)

theorem State.fdcSelect_setCpu (v : Byte) :
    (s.setCpu d).fdcSelect v = (s.fdcSelect v).setCpu d := by
  unfold State.fdcSelect
  cases selectedDrive v with
  | none => rfl
  | some new =>
    dsimp only
    split_ifs <;> first | rfl | contradiction

theorem State.seek_setCpu : (s.setCpu d).seek = s.seek.setCpu d := by
  unfold State.seek
  dsimp only [State.setCpu_fdc]
  split_ifs <;> rfl

theorem State.stepBy_setCpu (x : StepDir) (u : Bool) :
    (s.setCpu d).stepBy x u = (s.stepBy x u).setCpu d := by
  cases u <;> rfl

theorem State.typeIMove_setCpu (c : Byte) :
    (s.setCpu d).typeIMove c = (s.typeIMove c).setCpu d := by
  unfold State.typeIMove
  split
  · rfl
  · exact s.seek_setCpu d
  · exact s.stepBy_setCpu d _ _
  · exact s.stepBy_setCpu d _ _
  · exact (s.setStepDir _).stepBy_setCpu d _ _
  · exact (s.setStepDir _).stepBy_setCpu d _ _
  · exact (s.setStepDir _).stepBy_setCpu d _ _

theorem State.afterSearch_setCpu (r : Option Nat) :
    (s.setCpu d).afterSearch r = (s.afterSearch r).setCpu d := by
  cases r <;> rfl

theorem State.verify_setCpu : (s.setCpu d).verify = s.verify.setCpu d := by
  have hr : (s.setCpu d).searchSector none none = s.searchSector none none := rfl
  simp only [State.verify, ite_setCpu, hr]
  cases s.searchSector none none <;> simp only [ite_setCpu] <;> rfl

theorem State.typeI_setCpu (c : Byte) : (s.setCpu d).typeI c = (s.typeI c).setCpu d := by
  simp only [State.typeI, State.typeIMove_setCpu, State.cur_setCpu, State.setStatus_setCpu,
    State.verify_setCpu, ← ite_setCpu, State.schedule_setCpu]

theorem State.readSector_setCpu (c : Byte) :
    (s.setCpu d).readSector c = (s.readSector c).setCpu d := by
  simp only [State.readSector, State.setStatus_setCpu, State.setCpu_fdc, State.searchSector_setCpu]
  cases (s.setStatus 0x00).searchSector _ _ <;> rfl

theorem State.forceInterrupt_setCpu (c : Byte) :
    (s.setCpu d).forceInterrupt c = (s.forceInterrupt c).setCpu d := by
  simp only [State.forceInterrupt, ite_setCpu]
  rfl

theorem State.fdcCommand_setCpu {c : Byte} (h : s.fdcCommand c = .ok t) :
    (s.setCpu d).fdcCommand c = .ok (t.setCpu d) := by
  simp only [State.fdcCommand, State.clearNmi_setCpu, State.setCpu_fdc, State.withFdc_setCpu,
    State.cancel_setCpu, State.typeI_setCpu, State.readSector_setCpu, State.forceInterrupt_setCpu]
    at h ⊢
  generalize (c.extractLsb' 4 4).toNat = n at h ⊢
  split at h <;> cases h <;> rfl

/-! ### The cassette -/

theorem State.cassetteOpen_setCpu (h : s.cassetteOpen = .ok t) :
    (s.setCpu d).cassetteOpen = .ok (t.setCpu d) := by
  unfold State.cassetteOpen at h ⊢
  rw [State.setCpu_cas]
  split at h
  · cases h
    rfl
  · split_ifs at h ⊢
    cases h
    rfl

theorem State.scheduleKickOff_setCpu :
    (s.setCpu d).scheduleKickOff = s.scheduleKickOff.setCpu d := by
  unfold State.scheduleKickOff
  rw [ite_setCpu]
  rfl

theorem State.cassetteMotor_setCpu {on : Bool} (h : s.cassetteMotor on = .ok t) :
    (s.setCpu d).cassetteMotor on = .ok (t.setCpu d) := by
  unfold State.cassetteMotor at h ⊢
  rw [State.setCpu_cas, State.withCas_setCpu, State.emit_setCpu]
  generalize State.emit _ _ = u at h ⊢
  dsimp only at h ⊢
  split_ifs at h ⊢ with _ _ hd hu hu
  · cases h
    rfl
  · obtain ⟨v, hv, rfl⟩ := map_ok h
    rw [u.cassetteOpen_setCpu d hv]
    exact congrArg Except.ok (v.scheduleKickOff_setCpu d)
  · exact absurd hd hu
  · exact absurd hu hd
  · cases h
    exact congrArg Except.ok (u.scheduleKickOff_setCpu d)
  · cases h
    rfl

/-! ### The port router -/

theorem State.modeWrite_setCpu {v : Byte} (h : s.modeWrite v = .ok t) :
    (s.setCpu d).modeWrite v = .ok (t.setCpu d) := by
  obtain ⟨u, hu, rfl⟩ := map_ok h
  have hd := State.cassetteMotor_setCpu _ d hu
  rw [ite_setCpu]
  exact congrArg (Except.map _) hd

/-- A port read does not depend on the CPU and leaves it alone. -/
theorem State.ioRead_setCpu {port : Word} {v : Byte} (h : s.ioRead port = .ok (v, t)) :
    (s.setCpu d).ioRead port = .ok (v, t.setCpu d) := by
  simp only [State.ioRead, State.unknownPortRead, State.setCpu_cfg, State.statusRead_setCpu,
    State.afterStatusRead_setCpu, State.dataRead_setCpu, State.afterDataRead_setCpu] at h ⊢
  generalize decodePort (lo port) = p, s.cfg.unknownPorts = q at h ⊢
  cases p <;> cases q <;> cases h <;> rfl

/-- A port write does not depend on the CPU and leaves it alone. -/
theorem State.ioWrite_setCpu {port : Word} {v : Byte} (h : s.ioWrite port v = .ok t) :
    (s.setCpu d).ioWrite port v = .ok (t.setCpu d) := by
  unfold State.ioWrite at h ⊢
  dsimp only at h ⊢
  generalize decodePort (lo port) = p at h ⊢
  cases p
  case mode => exact s.modeWrite_setCpu d h
  case fdcStatus => exact s.fdcCommand_setCpu d h
  case fdcSelect =>
    cases h
    exact congrArg Except.ok (s.fdcSelect_setCpu d v)
  case cassette =>
    cases h
    rw [ite_setCpu]
    rfl
  case unknown =>
    simp only [State.unknownPortWrite, State.setCpu_cfg] at h ⊢
    generalize s.cfg.unknownPorts = q at h ⊢
    cases q <;> cases h
    rfl
  all_goals
    cases h
    rfl

end Sys2Proof.Machine
end

section
/-! The hidden registers: the alternate set and the control state (R31, R37 to R42). But for the few
instructions that name one, `exec` neither reads nor writes them: it commutes with their exchange. -/

namespace Sys2Proof.Machine

/-- The working registers of `d` over the hidden ones of `c`. -/
def Regs.withHidden (d c : Regs) : Regs :=
  { c with
    a := d.a, f := d.f, b := d.b, c := d.c, d := d.d, e := d.e, h := d.h, l := d.l
    ix := d.ix, iy := d.iy, sp := d.sp, pc := d.pc }

/-- `s` with the hidden registers of `c`. -/
def State.withHidden (s : State) (c : Regs) : State := s.setCpu (s.cpu.withHidden c)

/-! ### The register file -/

section
variable (d c : Regs)

@[simp] theorem Regs.withHidden_a : (d.withHidden c).a = d.a := rfl
@[simp] theorem Regs.withHidden_f : (d.withHidden c).f = d.f := rfl
@[simp] theorem Regs.withHidden_b : (d.withHidden c).b = d.b := rfl
@[simp] theorem Regs.withHidden_c : (d.withHidden c).c = d.c := rfl
@[simp] theorem Regs.withHidden_sp : (d.withHidden c).sp = d.sp := rfl
@[simp] theorem Regs.withHidden_pc : (d.withHidden c).pc = d.pc := rfl

@[simp] theorem Regs.withHidden_getPair (p : Pair) :
    (d.withHidden c).getPair p = d.getPair p := by cases p <;> rfl
@[simp] theorem Regs.withHidden_getStackPair (q : StackPair) :
    (d.withHidden c).getStackPair q = d.getStackPair q := by cases q <;> rfl
@[simp] theorem Regs.withHidden_getIdx (x : Idx) :
    (d.withHidden c).getIdx x = d.getIdx x := by cases x <;> rfl
@[simp] theorem Regs.withHidden_getIdxPair (x : Idx) (p : IdxPair) :
    (d.withHidden c).getIdxPair x p = d.getIdxPair x p := by cases x <;> cases p <;> rfl

@[simp] theorem Regs.withHidden_setBC (w : Word) :
    (d.withHidden c).setBC w = (d.setBC w).withHidden c := rfl
@[simp] theorem Regs.withHidden_setDE (w : Word) :
    (d.withHidden c).setDE w = (d.setDE w).withHidden c := rfl
@[simp] theorem Regs.withHidden_setHL (w : Word) :
    (d.withHidden c).setHL w = (d.setHL w).withHidden c := rfl
@[simp] theorem Regs.withHidden_setPair (p : Pair) (w : Word) :
    (d.withHidden c).setPair p w = (d.setPair p w).withHidden c := by cases p <;> rfl
@[simp] theorem Regs.withHidden_setStackPair (q : StackPair) (w : Word) :
    (d.withHidden c).setStackPair q w = (d.setStackPair q w).withHidden c := by cases q <;> rfl

end

variable (s : State) (c : Regs)

/-! ### What is read -/

@[simp] theorem State.withHidden_cpu : (s.withHidden c).cpu = s.cpu.withHidden c := rfl
@[simp] theorem State.withHidden_cfg : (s.withHidden c).cfg = s.cfg := rfl
@[simp] theorem State.withHidden_flags : (s.withHidden c).flags = s.flags := rfl
@[simp] theorem State.withHidden_bc : (s.withHidden c).bc = s.bc := rfl
@[simp] theorem State.withHidden_de : (s.withHidden c).de = s.de := rfl
@[simp] theorem State.withHidden_hl : (s.withHidden c).hl = s.hl := rfl
@[simp] theorem State.withHidden_reg (r : Reg8) : (s.withHidden c).reg r = s.reg r := by
  cases r <;> rfl
@[simp] theorem State.withHidden_idx (x : Idx) : (s.withHidden c).idx x = s.idx x := by
  cases x <;> rfl
@[simp] theorem State.withHidden_half (x : Idx) (h : Half) :
    (s.withHidden c).half x h = s.half x h := by cases x <;> cases h <;> rfl
@[simp] theorem State.withHidden_ea (x : Idx) (n : Byte) : (s.withHidden c).ea x n = s.ea x n := by
  cases x <;> rfl
@[simp] theorem State.withHidden_readByte (a : Word) :
    (s.withHidden c).readByte a = s.readByte a := s.readByte_setCpu _ a
@[simp] theorem State.withHidden_readWord (a : Word) :
    (s.withHidden c).readWord a = s.readWord a := s.readWord_setCpu _ a
@[simp] theorem State.withHidden_popWord : (s.withHidden c).popWord = s.popWord :=
  s.readWord_setCpu _ _

/-! ### The plain updates -/

@[simp] theorem State.withHidden_setCpu (d : Regs) :
    (s.withHidden c).setCpu (d.withHidden c) = (s.setCpu d).withHidden c := rfl
@[simp] theorem State.withHidden_setPC (w : Word) :
    (s.withHidden c).setPC w = (s.setPC w).withHidden c := rfl
@[simp] theorem State.withHidden_setSP (w : Word) :
    (s.withHidden c).setSP w = (s.setSP w).withHidden c := rfl
@[simp] theorem State.withHidden_setReg (r : Reg8) (v : Byte) :
    (s.withHidden c).setReg r v = (s.setReg r v).withHidden c := by cases r <;> rfl
@[simp] theorem State.withHidden_setIdx (x : Idx) (w : Word) :
    (s.withHidden c).setIdx x w = (s.setIdx x w).withHidden c := by cases x <;> rfl
@[simp] theorem State.withHidden_setHalf (x : Idx) (h : Half) (v : Byte) :
    (s.withHidden c).setHalf x h v = (s.setHalf x h v).withHidden c := by
  cases x <;> cases h <;> rfl
@[simp] theorem State.withHidden_setFlags (f : Flags) :
    (s.withHidden c).setFlags f = (s.setFlags f).withHidden c := rfl
@[simp] theorem State.withHidden_setFlagsDraw (f : Flags) (m : Byte) :
    (s.withHidden c).setFlagsDraw f m = (s.setFlagsDraw f m).withHidden c := rfl
@[simp] theorem State.withHidden_setFlagsUndoc (f : Flags) (m : Byte) :
    (s.withHidden c).setFlagsUndoc f m = (s.setFlagsUndoc f m).withHidden c := rfl
@[simp] theorem State.withHidden_tick (n : Nat) :
    (s.withHidden c).tick n = (s.tick n).withHidden c := rfl

/-! ### Memory and the stack -/

@[simp] theorem State.withHidden_afterRead (a : Word) :
    (s.withHidden c).afterRead a = (s.afterRead a).withHidden c := by
  simp [State.withHidden]
@[simp] theorem State.withHidden_afterReadWord (a : Word) :
    (s.withHidden c).afterReadWord a = (s.afterReadWord a).withHidden c := by
  simp [State.withHidden]
@[simp] theorem State.withHidden_memWrite (a : Word) (v : Byte) :
    (s.withHidden c).memWrite a v = (s.memWrite a v).withHidden c := by
  simp [State.withHidden]
@[simp] theorem State.withHidden_memWriteWord (a w : Word) :
    (s.withHidden c).memWriteWord a w = (s.memWriteWord a w).withHidden c := by
  simp [State.memWriteWord]
@[simp] theorem State.withHidden_push (w : Word) :
    (s.withHidden c).push w = (s.push w).withHidden c := by
  simp [State.push]
@[simp] theorem State.withHidden_afterPop :
    (s.withHidden c).afterPop = s.afterPop.withHidden c := by
  simp [State.afterPop]
@[simp] theorem State.withHidden_swapTop (w : Word) :
    (s.withHidden c).swapTop w = (s.swapTop w).withHidden c := by
  simp [State.swapTop]

/-! ### The shared operations of the instruction groups -/

theorem State.ite_withHidden {p : Prop} [Decidable p] (x y : State) :
    (if p then x.withHidden c else y.withHidden c) = (if p then x else y).withHidden c :=
  (apply_ite (State.withHidden · c) p x y).symm

@[simp] theorem State.withHidden_loadReg (r : Reg8) (a : Word) :
    (s.withHidden c).loadReg r a = (s.loadReg r a).withHidden c := by
  simp [State.loadReg]
@[simp] theorem State.withHidden_loadPair (p : Pair) (a : Word) :
    (s.withHidden c).loadPair p a = (s.loadPair p a).withHidden c := by
  simp [State.loadPair]
@[simp] theorem State.withHidden_alu (op : AluOp) (v : Byte) :
    (s.withHidden c).alu op v = (s.alu op v).withHidden c := by
  cases op <;> simp [State.alu]
@[simp] theorem State.withHidden_aluAt (op : AluOp) (a : Word) :
    (s.withHidden c).aluAt op a = (s.aluAt op a).withHidden c := by
  simp [State.aluAt]
@[simp] theorem State.withHidden_incReg (r : Reg8) :
    (s.withHidden c).incReg r = (s.incReg r).withHidden c := by
  simp [State.incReg]
@[simp] theorem State.withHidden_decReg (r : Reg8) :
    (s.withHidden c).decReg r = (s.decReg r).withHidden c := by
  simp [State.decReg]
@[simp] theorem State.withHidden_incHalf (x : Idx) (h : Half) :
    (s.withHidden c).incHalf x h = (s.incHalf x h).withHidden c := by
  simp [State.incHalf]
@[simp] theorem State.withHidden_decHalf (x : Idx) (h : Half) :
    (s.withHidden c).decHalf x h = (s.decHalf x h).withHidden c := by
  simp [State.decHalf]
@[simp] theorem State.withHidden_incAt (a : Word) :
    (s.withHidden c).incAt a = (s.incAt a).withHidden c := by
  simp [State.incAt]
@[simp] theorem State.withHidden_decAt (a : Word) :
    (s.withHidden c).decAt a = (s.decAt a).withHidden c := by
  simp [State.decAt]
@[simp] theorem State.withHidden_negA : (s.withHidden c).negA = s.negA.withHidden c := by
  simp [State.negA]
@[simp] theorem State.withHidden_addIdx (x : Idx) (p : IdxPair) :
    (s.withHidden c).addIdx x p = (s.addIdx x p).withHidden c := by
  simp [State.addIdx]
@[simp] theorem State.withHidden_rotA (op : RotOp) :
    (s.withHidden c).rotA op = (s.rotA op).withHidden c := by
  simp [State.rotA]
@[simp] theorem State.withHidden_rotReg (op : RotOp) (r : Reg8) :
    (s.withHidden c).rotReg op r = (s.rotReg op r).withHidden c := by
  simp [State.rotReg]
@[simp] theorem State.withHidden_rotAt (op : RotOp) (a : Word) :
    (s.withHidden c).rotAt op a = (s.rotAt op a).withHidden c := by
  simp [State.rotAt]
@[simp] theorem State.withHidden_rotAtCopy (op : RotOp) (a : Word) (r : Reg8) :
    (s.withHidden c).rotAtCopy op a r = (s.rotAtCopy op a r).withHidden c := by
  simp [State.rotAtCopy]
@[simp] theorem State.withHidden_rotDigits (m a : Byte) :
    (s.withHidden c).rotDigits m a = (s.rotDigits m a).withHidden c := by
  simp [State.rotDigits]
@[simp] theorem State.withHidden_modifyAt (a : Word) (f : Byte → Byte) :
    (s.withHidden c).modifyAt a f = (s.modifyAt a f).withHidden c := by
  simp [State.modifyAt]
@[simp] theorem State.withHidden_modifyAtCopy (a : Word) (r : Reg8) (f : Byte → Byte) :
    (s.withHidden c).modifyAtCopy a r f = (s.modifyAtCopy a r f).withHidden c := by
  simp [State.modifyAtCopy]
@[simp] theorem State.withHidden_bitAtIdx (b : Fin 8) (x : Idx) (n : Byte) :
    (s.withHidden c).bitAtIdx b x n = (s.bitAtIdx b x n).withHidden c := by
  simp [State.bitAtIdx]
@[simp] theorem State.withHidden_jumpRel (e : Byte) :
    (s.withHidden c).jumpRel e = (s.jumpRel e).withHidden c := by
  simp [State.jumpRel]
@[simp] theorem State.withHidden_call (w : Word) :
    (s.withHidden c).call w = (s.call w).withHidden c := by
  simp [State.call]
@[simp] theorem State.withHidden_popPC : (s.withHidden c).popPC = s.popPC.withHidden c := by
  simp [State.popPC]
@[simp] theorem State.withHidden_ldBody (w : Word) :
    (s.withHidden c).ldBody w = (s.ldBody w).withHidden c := by
  simp [State.ldBody]
@[simp] theorem State.withHidden_cpBody (w : Word) :
    (s.withHidden c).cpBody w = (s.cpBody w).withHidden c := by
  simp [State.cpBody]
@[simp] theorem State.withHidden_repeatIf (b : Bool) :
    (s.withHidden c).repeatIf b = (s.repeatIf b).withHidden c := by
  cases b <;> simp [State.repeatIf]
@[simp] theorem State.withHidden_repeatB : (s.withHidden c).repeatB = s.repeatB.withHidden c := by
  simp [State.repeatB]

/-! ### Port accesses -/

variable {s} {t u : State}

theorem State.ioRead_withHidden {port : Word} {v : Byte} (h : s.ioRead port = .ok (v, u)) :
    (s.withHidden c).ioRead port = .ok (v, u.withHidden c) := by
  simpa [State.withHidden, (ioRead_devices h).cpu] using s.ioRead_setCpu (s.cpu.withHidden c) h

theorem State.ioWrite_withHidden {port : Word} {v : Byte} (h : s.ioWrite port v = .ok u) :
    (s.withHidden c).ioWrite port v = .ok (u.withHidden c) := by
  simpa [State.withHidden, (ioWrite_devices h).cpu] using s.ioWrite_setCpu (s.cpu.withHidden c) h

theorem map_of_ok {α : Type} {x : Except Fault α} {v : α} {f : α → State} (hx : x = .ok v)
    (hf : f v = t) : x.map f = .ok t := by
  rw [hx, ← hf]
  rfl

theorem finish_map_of_ok {α : Type} {x : Except Fault α} {v : α} {f : α → State} (hx : x = .ok v)
    (hf : f v = t) : finish (x.map f) = .next t := by
  rw [map_of_ok hx hf]
  rfl

theorem State.inBody_withHidden {w : Word} {n : Byte} (h : s.inBody w n = .ok u) :
    (s.withHidden c).inBody w n = .ok (u.withHidden c) := by
  obtain ⟨⟨v, x⟩, hx, rfl⟩ := map_ok h
  refine map_of_ok (State.ioRead_withHidden c hx) ?_
  simp only [State.withHidden_hl, State.withHidden_memWrite, State.withHidden_cpu,
    Regs.withHidden_setHL]
  rfl

theorem State.outBody_withHidden {w : Word} (h : s.outBody w = .ok u) :
    (s.withHidden c).outBody w = .ok (u.withHidden c) := by
  obtain ⟨x, hx, rfl⟩ := map_ok h
  refine map_of_ok (v := x.withHidden c) ?_ (by simp)
  simpa using State.ioWrite_withHidden c hx

/-! ### exec -/

/-- The instructions that name a hidden register: an exchange with the alternate set, or control
state. -/
def namesHidden : Instr → Bool
  | .exAFAF' | .exx => true
  | .ldVectorA | .ldRefreshA | .ldAVector | .ldARefresh => true
  | .im0 | .im1 | .im2 | .im0Mirror _ | .im1Mirror | .im2Mirror => true
  | .di | .ei | .reti | .retn | .retnMirror _ | .halt => true
  | _ => false

/-- An instruction with a port access commutes with an exchange of the hidden registers. -/
theorem exec_port_withHidden {i : Instr} (h : usesPort i = true) (he : exec i s = .next t) :
    exec i (s.withHidden c) = .next (t.withHidden c) := by
  cases i
  case inAAtN | inRAtC | inFAtC =>
    obtain ⟨⟨v, u⟩, hu, rfl⟩ := map_ok (finish_next he)
    exact finish_map_of_ok (State.ioRead_withHidden c hu) (by simp)
  case outAtNA | outAtC0 =>
    obtain ⟨u, hu, rfl⟩ := map_ok (finish_next he)
    exact finish_map_of_ok (State.ioWrite_withHidden c hu) (by simp)
  case outAtCR r =>
    obtain ⟨u, hu, rfl⟩ := map_ok (finish_next he)
    rw [← s.withHidden_reg c] at hu
    exact finish_map_of_ok (State.ioWrite_withHidden c hu) (by simp)
  case ini | inir | ind | indr =>
    obtain ⟨u, hu, rfl⟩ := map_ok (finish_next he)
    exact finish_map_of_ok (State.inBody_withHidden c hu) (by simp)
  case outi | otir | outd | otdr =>
    obtain ⟨u, hu, rfl⟩ := map_ok (finish_next he)
    exact finish_map_of_ok (State.outBody_withHidden c hu) (by simp)
  all_goals exact Bool.noConfusion h

/-- An instruction without one completes and does so too, unless it names a hidden register: the
operation it consists of commutes by its own lemma. The downward block forms rewrite step by step:
comparing their clocks by reduction, as `simp` would, evaluates the step `-1`. -/
theorem exec_plain_withHidden (s : State) {i : Instr} (hp : usesPort i = false)
    (hn : namesHidden i = false) :
    ∃ t, exec i s = .next t ∧ exec i (s.withHidden c) = .next (t.withHidden c) := by
  cases i
  case jpCCNN | jrJCCE | callCCNN | retCC =>
    refine ⟨_, rfl, congrArg Host.Outcome.next ?_⟩
    simp [State.ite_withHidden]
  case djnzE =>
    refine ⟨_, rfl, congrArg Host.Outcome.next ?_⟩
    simp only [State.withHidden_cpu, Regs.withHidden_b, State.withHidden_setReg,
      State.withHidden_jumpRel, State.withHidden_tick, State.ite_withHidden]
  case ldd =>
    refine ⟨_, rfl, congrArg Host.Outcome.next ?_⟩
    rw [State.withHidden_ldBody, State.withHidden_tick]
  case cpd =>
    refine ⟨_, rfl, congrArg Host.Outcome.next ?_⟩
    rw [State.withHidden_cpBody, State.withHidden_tick]
  case lddr =>
    refine ⟨_, rfl, congrArg Host.Outcome.next ?_⟩
    rw [State.withHidden_ldBody, State.withHidden_bc, State.withHidden_repeatIf]
  case cpdr =>
    refine ⟨_, rfl, congrArg Host.Outcome.next ?_⟩
    rw [State.withHidden_cpBody, State.withHidden_bc, State.withHidden_hl, State.withHidden_readByte,
      State.withHidden_cpu, Regs.withHidden_a, State.withHidden_repeatIf]
  all_goals first
    | exact Bool.noConfusion hp
    | exact Bool.noConfusion hn
    | refine ⟨_, rfl, congrArg Host.Outcome.next ?_⟩
  all_goals simp

/-- An instruction that names no hidden register commutes with an exchange of them. -/
theorem exec_withHidden {i : Instr} (hn : namesHidden i = false) (he : exec i s = .next t) :
    exec i (s.withHidden c) = .next (t.withHidden c) := by
  cases hp : usesPort i
  · obtain ⟨u, hu, hc⟩ := exec_plain_withHidden c s hp hn
    cases hu.symm.trans he
    exact hc
  · exact exec_port_withHidden c hp he

/-- An instruction that names no hidden register leaves them all as they were. -/
theorem exec_keeps_hidden {i : Instr} (hn : namesHidden i = false) (he : exec i s = .next t) :
    t.withHidden s.cpu = t := by
  have h := exec_withHidden s.cpu hn he
  rw [show s.withHidden s.cpu = s from rfl, he] at h
  injection h with h
  exact h.symm

end Sys2Proof.Machine
end

section
/-! The alternate set (O43) and the writers of the control state (O44). -/

namespace Sys2Proof.Machine

variable {s t : State}

/-- The return from a handler reads the word at SP and writes SP, PC and IFF1 (R432, R433). -/
theorem State.leaveHandler_eq (s : State) :
    s.leaveHandler = (s.afterReadWord s.cpu.sp).setCpu
      { s.cpu with sp := s.cpu.sp + 2, pc := s.popWord, iff1 := s.cpu.iff2 } := by
  have h := s.afterReadWord_cpu s.cpu.sp
  unfold State.leaveHandler State.afterPop
  generalize s.afterReadWord s.cpu.sp = u at h ⊢
  rw [← h]
  rfl

theorem State.leaveHandler_withAlternates (s : State) (c : Regs) :
    (s.withAlternates c).leaveHandler = s.leaveHandler.withAlternates c := by
  have hread := s.afterReadWord_setCpu (s.withAlternates c).cpu s.cpu.sp
  have hword : (s.withAlternates c).popWord = s.popWord := s.readWord_setCpu _ _
  rw [State.leaveHandler_eq, State.leaveHandler_eq s, hword]
  exact (congrArg (State.setCpu · _) hread).trans rfl

/-- The read of R (R219) changes no register. -/
@[simp] theorem State.afterRefreshRead_cpu (s : State) : s.afterRefreshRead.cpu = s.cpu := by
  unfold State.afterRefreshRead
  cases s.cfg.rPolicy <;> rfl

@[simp] theorem State.loadAFlags_cpu (s : State) (v : Byte) :
    (s.loadAFlags v).cpu =
      { s.cpu with a := v, f := (ldAIRFlags s.flags v s.cpu.iff2).toByte } := rfl

theorem execLdARefresh_withAlternates (s : State) (c : Regs) :
    execLdARefresh (s.withAlternates c) =
      .next (((s.afterRefreshRead.loadAFlags s.refreshRead).tick 9).withAlternates c) := by
  unfold execLdARefresh State.afterRefreshRead State.refreshRead
  rw [show (s.withAlternates c).cfg = s.cfg from rfl]
  cases s.cfg.rPolicy <;> rfl

/-- Only the two exchanges read or write the alternate set (R31, R261, R262). -/
theorem exec_withAlternates {i : Instr} (c : Regs) (h1 : i ≠ .exAFAF') (h2 : i ≠ .exx)
    (he : exec i s = .next t) : exec i (s.withAlternates c) = .next (t.withAlternates c) := by
  cases hn : namesHidden i
  · have h := exec_withHidden (s.withAlternates c).cpu hn he
    rw [← exec_keeps_hidden hn he] at h ⊢
    exact h
  · cases i
    case exAFAF' => exact absurd rfl h1
    case exx => exact absurd rfl h2
    case reti | retn | retnMirror =>
      cases he
      exact congrArg (fun u : State => Host.Outcome.next (u.tick 14)) (s.leaveHandler_withAlternates c)
    case ldARefresh =>
      cases he
      exact execLdARefresh_withAlternates s c
    all_goals first
      | exact Bool.noConfusion hn
      | (cases he; rfl)

/-- Settles O43: `exec` commutes with an exchange of the alternate set; the exchange with the set in
place says that it is kept. -/
theorem alternateSet : Obligations.AlternateSet := by
  intro i s t h1 h2 he
  have hc (c : Regs) := exec_withAlternates c h1 h2 he
  have ht : t = t.withAlternates s.cpu := by
    have h := hc s.cpu
    rw [show s.withAlternates s.cpu = s from rfl, he] at h
    injection h
  rw [ht]
  exact ⟨rfl, rfl, rfl, rfl, rfl, rfl, rfl, rfl, fun c => hc c⟩

/-- Settles O44: an instruction that names no hidden register keeps the control state, and of those
that name one each writes its own part. -/
theorem controlStateWriters : Obligations.ControlStateWriters := by
  intro i s t he
  cases hn : namesHidden i
  · rw [← exec_keeps_hidden hn he]
    simp [Regs.withHidden]
  · cases i
    all_goals first
      | exact Bool.noConfusion hn
      | cases he
    all_goals simp

end Sys2Proof.Machine
end

section
/-! What a whole step keeps of ROM, the parameters and the clock (O45). -/

namespace Sys2Proof.Machine

variable {s t : State}

/-- The machine stops or runs one instruction with the stages after it (R530, R543). -/
theorem Onward.runStep (h : s.runStep = .next t) : Onward s t := by
  rcases runStep_next h with rfl | rfl | ⟨u, v, w, k, ⟨i, he⟩, hi, rfl⟩
  · exact .refl _
  · exact .of_eq rfl rfl rfl rfl rfl rfl
  · have fetched : Onward s u :=
      .trans (t := { s with skipBreak := false }) (.of_eq rfl rfl rfl rfl rfl rfl) k.onward
    have checked : Onward s w :=
      ((fetched.trans (.exec he)).trans (dispatch_devices v).onward).trans (.interruptCheck hi)
    exact (checked.trans (.cassetteUpdate w)).trans (.timerCheck _)

theorem Onward.step (h : step s = .next t) : Onward s t := by
  rcases step_next h with rfl | ⟨d, hd, hr⟩
  · exact .refl _
  · exact (Onward.drainInbox hd).trans (.runStep hr)

/-- Settles O45: every stage of a step leaves ROM and the parameters alone and never sets the clock
back. -/
theorem romNeverChanges : Obligations.RomNeverChanges := by
  intro s t h
  have k := Onward.step h
  exact ⟨k.romSize, k.cfg, k.clock, k.rom⟩

end Sys2Proof.Machine
end

section
/-! The memory router, address range by address range: reads (O8), writes (O9), a byte in RAM under
later writes (O10) and words (O17). -/

namespace Sys2Proof.Machine

variable (s : State) {a : Word}

/-! ### The regions as ranges (R80, R83) -/

theorem State.region_rom (h : a.toNat < s.romSize) : s.region a = .rom := if_pos h

theorem State.region_ram (hr : s.romSize ≤ a.toNat) (h : 0x4000 ≤ a.toNat) :
    s.region a = .ram := by
  simp [State.region, hr.not_gt, h]

theorem State.region_screen (hr : s.romSize ≤ a.toNat) (h : 0x3C00 ≤ a.toNat ∧ a.toNat < 0x4000) :
    s.region a = .screen := by
  simp [State.region, hr.not_gt, h.2.not_ge, h.1]

theorem State.region_keyboard (hr : s.romSize ≤ a.toNat)
    (h : 0x3800 ≤ a.toNat ∧ a.toNat < 0x3900) : s.region a = .keyboard := by
  have hs : ¬0x3C00 ≤ a.toNat := by omega
  have hm : ¬0x4000 ≤ a.toNat := by omega
  simp [State.region, hr.not_gt, hm, hs, h]

theorem State.region_printer (hr : s.romSize ≤ a.toNat) (h : a.toNat = 0x37E8) :
    s.region a = .printer := by
  simp [State.region, h, (h ▸ hr).not_gt]

theorem State.region_unmapped (hr : s.romSize ≤ a.toNat)
    (h : a.toNat < 0x37E8 ∨ (0x37E8 < a.toNat ∧ a.toNat < 0x3800) ∨
      (0x3900 ≤ a.toNat ∧ a.toNat < 0x3C00)) : s.region a = .unmapped := by
  have hm : ¬0x4000 ≤ a.toNat := by omega
  have hs : ¬0x3C00 ≤ a.toNat := by omega
  have hk : ¬(0x3800 ≤ a.toNat ∧ a.toNat < 0x3900) := by omega
  have hp : a.toNat ≠ 0x37E8 := by omega
  simp [State.region, hr.not_gt, hm, hs, hk, hp]

/-- The keyboard answers in its range alone, and nowhere in ROM. -/
theorem State.region_ne_keyboard (h : a.toNat < s.romSize ∨ a.toNat < 0x3800 ∨ 0x3900 ≤ a.toNat) :
    s.region a ≠ .keyboard := by
  intro hk
  unfold State.region at hk
  split_ifs at hk
  omega

/-- RAM and the screen are the addresses from 3C00 up that are not ROM. -/
theorem State.writable_iff : s.writable a = true ↔ s.romSize ≤ a.toNat ∧ 0x3C00 ≤ a.toNat := by
  unfold State.writable State.region
  split_ifs <;> simp <;> omega

/-! ### Reads and writes of a writable byte -/

theorem State.region_ne_keyboard_of_writable (h : s.writable a = true) : s.region a ≠ .keyboard :=
  s.region_ne_keyboard (.inr (.inr (by have := s.writable_iff.1 h; omega)))

theorem State.afterRead_of_writable (h : s.writable a = true) : s.afterRead a = s :=
  s.afterRead_plain (s.region_ne_keyboard_of_writable h)

theorem State.readByte_of_writable (h : s.writable a = true) : s.readByte a = s.mem.get a.toNat := by
  obtain ⟨hr, hs⟩ := s.writable_iff.1 h
  rcases lt_or_ge a.toNat 0x4000 with hm | hm
  · rw [State.readByte, s.region_screen hr ⟨hs, hm⟩]
  · rw [State.readByte, s.region_ram hr hm]

/-! ### The routers -/

/-- Settles O8: the region of each range decides both the byte and the state after the read. -/
theorem memoryRead : Obligations.MemoryRead := by
  intro s a
  refine ⟨fun h => ?rom, fun hr => ⟨fun h => ?ram, fun h => ?screen, fun h => ?keyboard,
    fun h => ?printer, fun h => ?unmapped⟩, fun hr h1 h2 => ?dequeue,
    fun h => s.afterRead_plain (s.region_ne_keyboard h)⟩
  case rom => rw [State.readByte, s.region_rom h]
  case ram => rw [State.readByte, s.region_ram hr h]
  case screen => rw [State.readByte, s.region_screen hr h]
  case keyboard => rw [State.readByte, s.region_keyboard hr h]
  case printer => rw [State.readByte, s.region_printer hr h]
  case unmapped => rw [State.readByte, s.region_unmapped hr h]
  case dequeue => rw [State.afterRead, s.region_keyboard hr ⟨h1, h2⟩]

/-- Settles O9: the region of each range decides the store, and a store reaches its own cell alone. -/
theorem memoryWrite : Obligations.MemoryWrite := by
  intro s a v
  refine ⟨fun h => s.memWrite_dropped v (s.not_writable_rom h),
    fun hr => ⟨fun h => ?ram, fun h => ?screen, fun h => ?other⟩,
    .memWrite a v rfl (s.memWrite_romSize a v) rfl⟩
  case ram => rw [State.memWrite, s.region_ram hr h]; rfl
  case screen => rw [State.memWrite, s.region_screen hr h]; rfl
  case other =>
    refine s.memWrite_dropped v (Bool.eq_false_iff.2 fun hw => ?_)
    have := s.writable_iff.1 hw
    omega

/-! ### A byte under later writes -/

/-- The writable byte at `a` holds `v` and is flagged as initialized (R48, R87). -/
structure State.Holds (s : State) (a : Word) (v : Byte) : Prop where
  writable : s.writable a = true
  cell : s.mem.get a.toNat = v
  flag : a.toNat ∈ s.inited

theorem State.Holds.readByte {s : State} {v : Byte} (h : s.Holds a v) : s.readByte a = v :=
  (s.readByte_of_writable h.writable).trans h.cell

theorem State.memWrite_inited (v : Byte) (h : s.writable a = true) :
    (s.memWrite a v).inited = markInited s.inited a.toNat := by
  unfold State.memWrite
  split <;> simp_all [State.writable]

theorem State.holds_memWrite (v : Byte) (h : s.writable a = true) : (s.memWrite a v).Holds a v where
  writable := by rwa [State.writable_memWrite]
  cell := by rw [s.memWrite_mem v h, Memory.get_set_same]
  flag := by rw [s.memWrite_inited v h, mem_markInited]; exact .inl rfl

theorem State.Holds.memWrite_other {s : State} {v : Byte} (h : s.Holds a v) {b : Word} (w : Byte)
    (hb : b ≠ a) : (s.memWrite b w).Holds a v where
  writable := by rw [State.writable_memWrite]; exact h.writable
  cell := (s.memWrite_get_other w hb.symm).trans h.cell
  flag := by
    cases hw : s.writable b
    · rw [s.memWrite_dropped w hw]
      exact h.flag
    · rw [s.memWrite_inited w hw, mem_markInited]
      exact .inr h.flag

theorem State.Holds.memWrites_other {s : State} {v : Byte} (h : s.Holds a v)
    {later : List (Word × Byte)} (hl : ∀ w ∈ later, w.1 ≠ a) :
    (later.foldl (fun t w => t.memWrite w.1 w.2) s).Holds a v := by
  induction later generalizing s with
  | nil => exact h
  | cons w later ih =>
    obtain ⟨hw, hl⟩ := List.forall_mem_cons.1 hl
    exact ih (h.memWrite_other w.2 hw) hl

/-- Settles O10, by induction on the later writes. -/
theorem ramKeepsLastWrite : Obligations.RamKeepsLastWrite := by
  intro s a v later hr hm hl
  have hw : s.writable a = true := s.writable_iff.2 ⟨hr, by omega⟩
  have held := (s.holds_memWrite v hw).memWrites_other hl
  exact ⟨held.readByte, held.flag⟩

/-! ### Words -/

/-- Only the top of the address space has a writable byte with no writable byte after it. -/
theorem State.last_of_not_writable_succ (h : s.writable a = true) (h1 : s.writable (a + 1) = false) :
    a = 0xFFFF := by
  obtain ⟨hr, hs⟩ := s.writable_iff.1 h
  refine BitVec.eq_of_toNat_eq ?_
  by_contra hne
  change a.toNat ≠ 65535 at hne
  have next : (a + 1).toNat = a.toNat + 1 := by
    rw [BitVec.toNat_add, Nat.mod_eq_of_lt]
    · rfl
    · have := a.isLt
      change a.toNat + 1 < 65536
      omega
  rw [Bool.eq_false_iff, Ne, s.writable_iff, next] at h1
  omega

/-- A word whose low byte is writable is read without a dequeue in between. -/
theorem State.readWord_of_writable (h : s.writable a = true) :
    s.readWord a = pair (s.readByte (a + 1)) (s.readByte a) := by
  rw [State.readWord, s.afterRead_of_writable h]

theorem State.readWord_memWriteWord (w : Word) (h : s.writable a = true)
    (h1 : s.writable (a + 1) = true) : (s.memWriteWord a w).readWord a = w := by
  have low : ((s.memWrite a (lo w)).memWrite (a + 1) (hi w)).Holds a (lo w) :=
    (s.holds_memWrite (lo w) h).memWrite_other (hi w) (by simp)
  have high : ((s.memWrite a (lo w)).memWrite (a + 1) (hi w)).Holds (a + 1) (hi w) :=
    State.holds_memWrite _ (hi w) (by rwa [State.writable_memWrite])
  rw [State.memWriteWord, State.readWord_of_writable _ low.writable, high.readByte, low.readByte,
    pair_hi_lo]

/-- At FFFF the high byte is dropped at 0000, which reads as before (R88). -/
theorem State.readWord_memWriteWord_last (w : Word) (h : s.writable 0xFFFF = true)
    (h0 : s.writable 0 = false) :
    (s.memWriteWord 0xFFFF w).readWord 0xFFFF = pair (s.readByte 0) (lo w) := by
  have stored : s.memWriteWord 0xFFFF w = s.memWrite 0xFFFF (lo w) :=
    State.memWrite_dropped _ _ (by rwa [State.writable_memWrite])
  have low := s.holds_memWrite (lo w) h
  have high : (s.memWrite 0xFFFF (lo w)).readByte 0 = s.readByte 0 :=
    State.readByte_congr (s.memWrite_romSize _ _).symm
      (s.memWrite_get_other (lo w) (by decide)).symm (s.region_ne_keyboard (.inr (.inl (by decide))))
  rw [stored, State.readWord_of_writable _ low.writable, low.readByte]
  exact congrArg (pair · (lo w)) high

/-- Settles O17: the order of the two accesses, and what a word written reads back as. -/
theorem wordAccess : Obligations.WordAccess := by
  intro s a w
  refine ⟨lo_pair _ _, hi_pair _ _, rfl, rfl, s.readWord_memWriteWord w, fun h h1 => ?_⟩
  obtain rfl := s.last_of_not_writable_succ h h1
  exact ⟨rfl, s.readWord_memWriteWord_last w h h1⟩

end Sys2Proof.Machine
end

section
/-! The port router, port by port: reads (O36). -/

namespace Sys2Proof.Machine

variable (s : State)

/-! ### The status read (R589, R590) -/

@[simp] theorem Latches.withNmi_nmiLatch (l : Latches) (v : Byte) : (l.withNmi v).nmiLatch = v := rfl

/-- The motor is on and its time is up (R589). -/
def State.motorExpired : Bool := s.fdc.motorOn && decide (s.fdc.motorTimeout ≤ s.clock)

theorem State.checkDiskMotorOff_running (h : s.motorExpired = false) : s.checkDiskMotorOff = s :=
  if_neg (by simpa [State.motorExpired] using h)

theorem State.checkDiskMotorOff_expired (h : s.motorExpired = true) :
    s.checkDiskMotorOff =
      { s with
        fdc := { s.fdc with motorOn := false }
        lat := s.lat.withNmi (s.lat.nmiLatch ||| 0x40)
        outputs := s.outputs ++ [.motorLight s.fdc.drive.val false] } := by
  rw [State.checkDiskMotorOff, if_pos (by simpa [State.motorExpired] using h), raiseNmi_withNmi]
  rfl

/-- The status read turns an expired motor off and clears bit 7 of the NMI latch (R589, R590). -/
theorem State.afterStatusRead_eq :
    s.afterStatusRead =
      { s with
        fdc := { s.fdc with motorOn := s.fdc.motorOn && !s.motorExpired }
        lat := s.lat.withNmi
          ((if s.motorExpired then s.lat.nmiLatch ||| 0x40 else s.lat.nmiLatch) &&& 0x7F)
        outputs := s.outputs ++
          if s.motorExpired then [.motorLight s.fdc.drive.val false] else [] } := by
  rw [State.afterStatusRead, clearNmi_withNmi]
  cases h : s.motorExpired
  · rw [s.checkDiskMotorOff_running h]
    simp
  · rw [s.checkDiskMotorOff_expired h]
    simp [Latches.withNmi_and]

/-- The command types whose status is the Type I view (R581, R582). -/
theorem commandType_view (c : Byte) :
    (commandType c = .typeI ∨ commandType c = .typeIV) ↔
      c.toNat < 0x80 ∨ (0xD0 ≤ c.toNat ∧ c.toNat < 0xE0) := by
  revert c
  decide

/-- The Type I view after the motor check: the index hole of a mounted disk under a motor still
running, and the write protection of a mounted disk (R590, R630). -/
theorem State.typeIView_afterStatusRead :
    s.afterStatusRead.typeIView =
      (s.fdc.status &&& 0xBD) |||
        (if s.fdc.motorOn ∧ s.motorExpired = false ∧ decide (s.cur.kind ≠ .none) = true ∧
            s.clock % 405504 < 4055 then 0x02 else 0x00) |||
        (if decide (s.cur.kind ≠ .none) = true then 0x40 else 0x00) := by
  have hole : s.indexHole = decide (s.clock % 405504 < 4055) := rfl
  rw [s.afterStatusRead_eq]
  change ((s.fdc.status &&& 0xBD) |||
      (if (s.fdc.motorOn && !s.motorExpired) && s.cur.kind != .none && s.indexHole then 0x02
        else 0x00)) |||
      (if s.cur.kind != .none then 0x40 else 0x00) = _
  by_cases hk : s.cur.kind = .none <;> simp [hk, hole, and_assoc]

theorem State.statusRead_eq :
    s.statusRead =
      if s.fdc.command.toNat < 0x80 ∨ (0xD0 ≤ s.fdc.command.toNat ∧ s.fdc.command.toNat < 0xE0)
        then s.afterStatusRead.typeIView else s.fdc.status := by
  have command : s.afterStatusRead.fdc.command = s.fdc.command := by rw [s.afterStatusRead_eq]
  have status : s.afterStatusRead.fdc.status = s.fdc.status := by rw [s.afterStatusRead_eq]
  unfold State.statusRead
  simp only [command, status, ← commandType_view]
  cases commandType s.fdc.command <;> rfl

/-! ### The read router (R100) -/

/-- The ports that no read answers: those outside the map, and the select ports (R107, R110). -/
theorem not_read_of_range {p : Byte}
    (h : p.toNat < 0xE0 ∨ (0xE1 ≤ p.toNat ∧ p.toNat ≤ 0xE3) ∨ (0xE5 ≤ p.toNat ∧ p.toNat ≤ 0xE7) ∨
      (0xF4 ≤ p.toNat ∧ p.toNat ≤ 0xF7)) : decodePort p = .unknown ∨ decodePort p = .fdcSelect := by
  rcases h with h | h | h | h
  · exact .inl (decodePort_unknown (.inl h))
  · exact .inl (decodePort_unknown (.inr (.inl h)))
  · exact .inl (decodePort_unknown (.inr (.inr h)))
  · exact .inr (decodePort_fdcSelect h)

theorem State.ioRead_of_unknown {port : Word}
    (h : decodePort (lo port) = .unknown ∨ decodePort (lo port) = .fdcSelect) :
    s.ioRead port = s.unknownPortRead (lo port) := by
  rcases h with h | h <;> simp only [State.ioRead, h]

/-- Settles O36: the port map decides the device, and the status port reads as the lemmas above
say. -/
theorem portReads : Obligations.PortReads := by
  intro s port p clear out mounted view
  refine ⟨fun h => ?irq, fun h => ?nmi, fun h => ?uart, fun h => ?mode, fun h => ?status,
    fun h => ?track, fun h => ?sector, fun h => ?data, fun h => ?printer, fun h => ?cassette,
    fun h => ⟨fun hf => ?float, fun hf => ?fatal⟩⟩
  case irq => simp only [State.ioRead, decodePort_irq h]
  case nmi => simp only [State.ioRead, decodePort_nmi h]
  case uart => simp only [State.ioRead, decodePort_uart h]
  case mode =>
    simp only [State.ioRead, decodePort_mode h]
    rfl
  case status =>
    have read : s.ioRead port = .ok (s.statusRead, s.afterStatusRead) := by
      simp only [State.ioRead, decodePort_fdcStatus h]
    rw [read, s.statusRead_eq, s.typeIView_afterStatusRead, s.afterStatusRead_eq]
    rfl
  case track => simp only [State.ioRead, decodePort_fdcTrack h]
  case sector => simp only [State.ioRead, decodePort_fdcSector h]
  case data => simp only [State.ioRead, decodePort_fdcData h]
  case printer => simp only [State.ioRead, decodePort_printer h]
  case cassette =>
    simp only [State.ioRead, decodePort_cassette h, Cassette.bits, ← BitVec.or_assoc]
    rfl
  case float => rw [s.ioRead_of_unknown (not_read_of_range h), State.unknownPortRead, hf]
  case fatal =>
    rw [s.ioRead_of_unknown (not_read_of_range h), State.unknownPortRead, hf]
    rfl

end Sys2Proof.Machine
end

section
/-! The port router: writes (O37). -/

namespace Sys2Proof.Machine

variable (s : State)

/-! ### The cassette motor (R662, R663) -/

theorem State.cassetteMotor_same {on : Bool} (h : on = s.cas.motor) : s.cassetteMotor on = .ok s :=
  if_pos h

theorem State.cassetteMotor_off (h : s.cas.motor = true) :
    s.cassetteMotor false =
      .ok { s with
        cas := { s.cas with motor := false, state := .close }
        outputs := s.outputs ++ [.motorLight (-1) false] } := by
  simp [State.cassetteMotor, State.emit, h]

/-- The cassette once its motor is on, when that does not fault: a closed tape is opened (R663). -/
def Cassette.turnedOn (c : Cassette) (clock : Nat) : Cassette :=
  if c.state = .close then
    match c.source.bind parseWav with
    | none => { c with motor := true, state := .fail }
    | some w =>
      { c with
        motor := true, state := .read, motorOnClock := clock, samplesRead := 0, last := .neutral
        tape := ⟨w.fmt.rate, w.samples⟩ }
  else { c with motor := true }

theorem Cassette.turnedOn_open {c : Cassette} (n : Nat) (h : c.state ≠ .close) :
    c.turnedOn n = { c with motor := true } := if_neg h

theorem Cassette.turnedOn_fail {c : Cassette} (n : Nat) (h : c.state = .close)
    (hw : c.source.bind parseWav = none) :
    c.turnedOn n = { c with motor := true, state := .fail } := by
  rw [Cassette.turnedOn, if_pos h, hw]

theorem Cassette.turnedOn_read {c : Cassette} {w : WavFile} (n : Nat) (h : c.state = .close)
    (hw : c.source.bind parseWav = some w) :
    c.turnedOn n =
      { c with
        motor := true, state := .read, motorOnClock := n, samplesRead := 0, last := .neutral
        tape := ⟨w.fmt.rate, w.samples⟩ } := by
  rw [Cassette.turnedOn, if_pos h, hw]

theorem State.scheduleKickOff_eq :
    s.scheduleKickOff =
      { s with
        events := if s.lat.irqMask &&& 0x03 = 0 then s.events
          else insertEvent ⟨0x08, s.clock + 2027520, s.seqNo, .kickOff⟩ s.events
        seqNo := if s.lat.irqMask &&& 0x03 = 0 then s.seqNo else s.seqNo + 1 } := by
  unfold State.scheduleKickOff
  by_cases hk : s.lat.irqMask &&& 0x03 = 0
  · rw [if_pos hk, if_pos hk, if_pos hk]
  · rw [if_neg hk, if_neg hk, if_neg hk]
    rfl

/-- A motor turned on opens a closed tape, and a kick-off may follow (R662, R663). -/
theorem State.cassetteMotor_on (h : s.cas.motor = false)
    (ho : s.cas.state = .close → s.cas.Openable) :
    s.cassetteMotor true =
      .ok ({ s with
        cas := s.cas.turnedOn s.clock
        outputs := s.outputs ++ [.motorLight (-1) true] } : State).scheduleKickOff := by
  by_cases hc : s.cas.state = .close
  · cases hw : s.cas.source.bind parseWav with
    | none =>
      rw [Cassette.turnedOn_fail _ hc hw]
      simp [State.cassetteMotor, State.cassetteOpen, State.emit, h, hc, hw, Except.map]
    | some w =>
      obtain ⟨pcm, mono, bits⟩ := ho hc w hw
      rw [Cassette.turnedOn_read _ hc hw]
      simp [State.cassetteMotor, State.cassetteOpen, State.emit, h, hc, hw, pcm, mono, bits,
        Except.map]
  · rw [Cassette.turnedOn_open _ hc]
    simp [State.cassetteMotor, State.emit, h, hc, Except.map]

/-- A closed tape that parses and is not PCM, mono, 16-bit stops the machine with the motor on and
its light reported (R663). -/
theorem State.cassetteMotor_badWav {w : WavFile} (h : s.cas.motor = false)
    (hc : s.cas.state = .close) (hw : s.cas.source.bind parseWav = some w)
    (hb : w.fmt.format ≠ 1 ∨ w.fmt.channels ≠ 1 ∨ w.fmt.bits ≠ 16) :
    s.cassetteMotor true =
      .error (({ s with
        cas := { s.cas with motor := true }
        outputs := s.outputs ++ [.motorLight (-1) true] } : State).fatal .badWav) := by
  simp [State.cassetteMotor, State.cassetteOpen, State.emit, h, hc, hw, Except.map, hb]

/-! ### The mode write (R105) -/

/-- `s` with the mode image `v`, the cassette `c`, the event queue `q` with its counter `n`, and
the lights of the motor and of a change of bit 2 reported. -/
def State.modeWritten (s : State) (v : Byte) (c : Cassette) (q : List Event) (n : Nat) : State :=
  { s with
    modeImage := v, cas := c, events := q, seqNo := n
    outputs := s.outputs ++
      (if v.getLsbD 1 = s.cas.motor then [] else [.motorLight (-1) (v.getLsbD 1)]) ++
      if v.getLsbD 2 = s.modeImage.getLsbD 2 then [] else [.expanded (v.getLsbD 2)] }

theorem State.modeWrite_of_motor {v : Byte} {u : State}
    (h : ({ s with modeImage := v } : State).cassetteMotor (v.getLsbD 1) = .ok u) :
    s.modeWrite v =
      .ok { u with
        outputs := u.outputs ++
          if v.getLsbD 2 = s.modeImage.getLsbD 2 then [] else [.expanded (v.getLsbD 2)] } := by
  simp only [State.modeWrite, h, Except.map]
  split <;> simp [State.emit]

theorem State.modeWrite_same {v : Byte} (h : v.getLsbD 1 = s.cas.motor) :
    s.modeWrite v = .ok (s.modeWritten v s.cas s.events s.seqNo) := by
  rw [s.modeWrite_of_motor (State.cassetteMotor_same _ h), State.modeWritten, if_pos h,
    List.append_nil]

theorem State.modeWrite_off {v : Byte} (h : v.getLsbD 1 = false) (hm : s.cas.motor = true) :
    s.modeWrite v =
      .ok (s.modeWritten v { s.cas with motor := false, state := .close } s.events s.seqNo) := by
  rw [s.modeWrite_of_motor (h ▸ State.cassetteMotor_off { s with modeImage := v } hm),
    State.modeWritten, h, hm, if_neg Bool.false_ne_true]

theorem State.modeWrite_on {v : Byte} (h : v.getLsbD 1 = true) (hm : s.cas.motor = false)
    (ho : s.cas.state = .close → s.cas.Openable) :
    s.modeWrite v =
      .ok (s.modeWritten v (s.cas.turnedOn s.clock)
        (if s.lat.irqMask &&& 0x03 = 0 then s.events
          else insertEvent ⟨0x08, s.clock + 2027520, s.seqNo, .kickOff⟩ s.events)
        (if s.lat.irqMask &&& 0x03 = 0 then s.seqNo else s.seqNo + 1)) := by
  rw [s.modeWrite_of_motor (h ▸ State.cassetteMotor_on { s with modeImage := v } hm ho),
    State.scheduleKickOff_eq, State.modeWritten, h, hm, if_neg Bool.false_ne_true.symm]

/-! ### The write router (R101) -/

/-- Settles O37: the port map decides the device; a mode write splits on whether the motor bit
changes, and a motor-on on whether a kick-off is scheduled. -/
theorem portWrites : Obligations.PortWrites := by
  intro s port v p
  refine ⟨fun h => ?irq, fun h => ?nmi, fun h => ?none, fun h => ?mode, fun h => ?command,
    fun h => ?track, fun h => ?sector, fun h => ?data, fun h => ?select, fun h => ?cassette,
    fun h => ⟨fun hf => ?float, fun hf => ?fatal⟩⟩
  case irq => simp only [State.ioWrite, decodePort_irq h]
  case nmi =>
    simp only [State.ioWrite, decodePort_nmi h]
    have e := Latches.nmiUpdate_withNmi { s.lat with nmiMask := v ||| 0x20 } s.lat.nmiLatch
    exact congrArg (fun l => Except.ok { s with lat := l }) e
  case none =>
    rcases h with h | h
    · simp only [State.ioWrite, decodePort_uart h]
    · simp only [State.ioWrite, decodePort_printer h]
  case mode =>
    have write : s.ioWrite port v = s.modeWrite v := by
      simp only [State.ioWrite, decodePort_mode h]
    intro on light opens
    refine ⟨fun w ho hw hb => ?bad, fun ho => ?good⟩
    case bad =>
      obtain ⟨hon, hm, hc⟩ := ho
      have stop := State.cassetteMotor_badWav { s with modeImage := v } hm hc hw hb
      rw [write, State.modeWrite, show v.getLsbD 1 = true from hon, stop]
      simp [light, hon, hm, Except.map, State.fatal]
    case good =>
      rw [write]
      by_cases hsame : on = s.cas.motor
      · refine ⟨_, s.modeWrite_same hsame, rfl, fun _ => rfl, ?_, ?_, ?_, ?_, ?_,
          fun _ => ⟨rfl, rfl⟩⟩
        -- every other clause supposes a change of the motor
        all_goals simp_all [opens]
      · cases hon : on
        case false =>
          have hm : s.cas.motor = true := by simpa [hon] using hsame
          refine ⟨_, s.modeWrite_off hon hm, rfl, ?_, fun _ _ => rfl, ?_, ?_, ?_, ?_,
            fun _ => ⟨rfl, rfl⟩⟩
          -- every other clause supposes the motor unchanged or turned on
          all_goals simp_all [opens]
        case true =>
          have hm : s.cas.motor = false := by simpa [hon] using hsame
          refine ⟨_, s.modeWrite_on hon hm fun hc => ho ⟨hon, hm, hc⟩, rfl,
            fun h => absurd (hon.trans h) hsame, fun h => absurd h (by simp),
            fun _ _ => Cassette.turnedOn_open _, fun hc => Cassette.turnedOn_fail _ hc.2.2,
            fun w hc => Cassette.turnedOn_read _ hc.2.2, fun hk => ⟨if_neg hk.2.2, fun e => ?_⟩,
            fun hk => ?_⟩
          · rw [State.modeWritten, if_neg hk.2.2, mem_insertEvent, or_comm]
          · have masked : s.lat.irqMask &&& 0x03 = 0 := by
              by_contra hne
              exact hk ⟨rfl, hm, hne⟩
            exact ⟨if_pos masked, if_pos masked⟩
  case command => simp only [State.ioWrite, decodePort_fdcStatus h]
  case track => simp only [State.ioWrite, decodePort_fdcTrack h]
  case sector => simp only [State.ioWrite, decodePort_fdcSector h]
  case data => simp only [State.ioWrite, decodePort_fdcData h]
  case select => simp only [State.ioWrite, decodePort_fdcSelect h]
  case cassette =>
    simp only [State.ioWrite, decodePort_cassette h, and_0x20]
    cases v.getLsbD 5 <;> rfl
  case float => simp only [State.ioWrite, decodePort_unknown h, State.unknownPortWrite, hf]
  case fatal =>
    simp only [State.ioWrite, decodePort_unknown h, State.unknownPortWrite, hf]
    rfl

end Sys2Proof.Machine
end

section
/-! The decoder on encodings (O1). -/

namespace Sys2Proof

open Sys2Proof.Machine (lo hi)

/-- The data word of a row is read little-endian (R151). -/
theorem Row.complete_imm16 (f : Word → Instr) (nn : Word) (rest : List Byte) :
    (Row.imm16 f).complete (lo nn :: hi nn :: rest) = .ok (f nn) rest := by
  simp [Row.complete]

theorem Reg8.notHL_iff {r : Reg8} :
    r.notHL = true ↔ r = .b ∨ r = .c ∨ r = .d ∨ r = .e ∨ r = .a := by
  cases r <;> decide

/-- A mirror's field is one of those its well-formedness lists (R332 to R334). -/
theorem Instr.wf_negMirror {y : Fin 8} : (negMirror y).wf = true ↔ y ≠ 0 := by
  revert y; decide

theorem Instr.wf_retnMirror {y : Fin 8} : (retnMirror y).wf = true ↔ y ≠ 0 ∧ y ≠ 1 := by
  revert y; decide

theorem Instr.wf_im0Mirror {y : Fin 8} : (im0Mirror y).wf = true ↔ y = 1 ∨ y = 4 ∨ y = 5 := by
  revert y; decide

/-- The decoder reads back every well-formed instruction and nothing after it: in each row the
opcode byte selects the row for every value of its fields, and the row then reads its data bytes. -/
theorem decode_encode (i : Instr) (rest : List Byte) (h : i.wf = true) :
    decode (encode i ++ rest) = .ok i rest := by
  cases i
  -- a data word after fixed opcode bytes
  case jpNN nn | callNN nn | ldAtNNHL nn | ldHLAtNN nn | ldAtNNA nn | ldAAtNN nn | ldIXNN nn
    | ldAtNNIX nn | ldIXAtNN nn | ldIYNN nn | ldAtNNIY nn | ldIYAtNN nn =>
    exact Row.complete_imm16 _ nn rest
  -- a data word after a field
  case ldDDNN p nn | ldAtNNDD p nn | ldDDAtNN p nn => cases p <;> exact Row.complete_imm16 _ nn rest
  case jpCCNN cc nn | callCCNN cc nn => cases cc <;> exact Row.complete_imm16 _ nn rest
  -- a pair or condition field
  case addHLSS p | incSS p | decSS p | sbcHLSS p | adcHLSS p | addIXPP p | addIYRR p =>
    cases p <;> rfl
  case popQQ q | pushQQ q => cases q <;> rfl
  case retCC cc | jrJCCE cc e => cases cc <;> rfl
  -- a register field
  case incR r | decR r | ldRN r n | ldRAtHL r | ldAtHLR r | addAR r | adcAR r | subR r | sbcAR r
    | andR r | xorR r | orR r | cpR r | rlcR r | rrcR r | rlR r | rrR r | slaR r | sraR r | sllR r
    | srlR r | inRAtC r | outAtCR r | ldRAtIXd r d | ldAtIXdR r d | ldRAtIYd r d | ldAtIYdR r d =>
    cases r <;> rfl
  case ldRR rd rs => cases rd <;> cases rs <;> rfl
  -- a register field beside an index half
  case ldRHX r | ldRLX r | ldHXR r | ldLXR r | ldRHY r | ldRLY r | ldHYR r | ldLYR r =>
    rcases Reg8.notHL_iff.1 h with rfl | rfl | rfl | rfl | rfl <;> rfl
  -- a bit number or restart number
  case rstP b | bitBAtHL b | resBAtHL b | setBAtHL b | bitBAtIXd b d | resBAtIXd b d | setBAtIXd b d
    | bitBAtIYd b d | resBAtIYd b d | setBAtIYd b d => fin_cases b <;> rfl
  case bitBR b r | resBR b r | setBR b r | bitBAtIXdMirror b d r | resBAtIXdR b d r
    | setBAtIXdR b d r | bitBAtIYdMirror b d r | resBAtIYdR b d r | setBAtIYdR b d r =>
    fin_cases b <;> cases r <;> rfl
  case rotAtIXdR o d r | rotAtIYdR o d r => cases o <;> cases r <;> rfl
  -- a mirror's field
  case negMirror y =>
    have hy := Instr.wf_negMirror.1 h
    fin_cases y
    · exact absurd rfl hy
    all_goals rfl
  case retnMirror y =>
    obtain ⟨h0, h1⟩ := Instr.wf_retnMirror.1 h
    fin_cases y
    · exact absurd rfl h0
    · exact absurd rfl h1
    all_goals rfl
  case im0Mirror y => rcases Instr.wf_im0Mirror.1 h with rfl | rfl | rfl <;> rfl
  -- fixed opcode bytes, with data bytes or none
  all_goals rfl

/-- Settles O1, by the case split over the instructions in `decode_encode`. -/
theorem decodeOfEncode : Obligations.DecodeOfEncode := decode_encode

end Sys2Proof
end

section
/-! What the decoder accepts (O2): the fields of an opcode byte give the byte back, and every row
spells the bytes that select it. -/

namespace Sys2Proof

open Sys2Proof.Machine (lo hi)

/-! ### Fields (R140, R145) -/

theorem eq_opByte {op : Byte} {n : Nat} (h : op.toNat = n) : op = opByte n := by
  subst h
  simp [opByte]

/-- An opcode byte is its three fields, each at its place. -/
theorem op_of_fields {op : Byte} {x : Nat} (hx : fieldX op = x) :
    opByte (64 * x + 8 * fieldY op + fieldZ op) = op :=
  (eq_opByte (by simp only [fieldX, fieldY, fieldZ] at *; omega)).symm

theorem fieldX_lt (op : Byte) : fieldX op < 4 := by
  have := op.isLt
  simp only [fieldX]
  omega

theorem fieldY_lt (op : Byte) : fieldY op < 8 := Nat.mod_lt _ (by decide)

theorem fieldZ_lt (op : Byte) : fieldZ op < 8 := Nat.mod_lt _ (by decide)

theorem fieldY8_val (op : Byte) : (fieldY8 op).val = fieldY op := Nat.mod_eq_of_lt (fieldY_lt op)

theorem regOf_some {k : Nat} {r : Reg8} (h : regOf k = some r) : k = r.code := by
  unfold regOf at h
  split at h <;> cases h <;> rfl

/-- Only the field value 6 names no register (R145). -/
theorem regOf_none {k : Nat} (hk : k < 8) (h : regOf k = none) : k = 6 :=
  (by decide : ∀ k < 8, regOf k = none → k = 6) k hk h

theorem notHL_of_regOf {k : Nat} {r : Reg8} (h : regOf k = some r) (h4 : k ≠ 4) (h5 : k ≠ 5) :
    r.notHL = true := by
  rw [regOf_some h] at h4 h5
  cases r
  case h => exact absurd rfl h4
  case l => exact absurd rfl h5
  all_goals rfl

/-! ### Rows -/

/-- `i` is well-formed and `bs` is its encoding. -/
def Spells (bs : List Byte) (i : Instr) : Prop := i.wf = true ∧ encode i = bs

/-- The bytes `pre` and the data bytes the row reads after them spell its instruction, whatever the
data. -/
def Row.Spells (pre : List Byte) (row : Row) : Prop :=
  ∀ (d n : Byte) (nn : Word),
    match row with
    | .absent => True
    | .plain i => Sys2Proof.Spells pre i
    | .imm8 f => Sys2Proof.Spells (pre ++ [n]) (f n)
    | .imm16 f => Sys2Proof.Spells (pre ++ [lo nn, hi nn]) (f nn)
    | .dispImm f => Sys2Proof.Spells (pre ++ [d, n]) (f d n)

theorem Row.Spells.absent {pre : List Byte} : Row.absent.Spells pre := fun _ _ _ => trivial

/-- What a row answers is spelled by the bytes before it and those it reads. -/
theorem Row.Spells.of_complete {pre bs rest : List Byte} {row : Row} {i : Instr}
    (h : row.Spells pre) (hc : row.complete bs = .ok i rest) :
    i.wf = true ∧ pre ++ bs = encode i ++ rest := by
  unfold Row.complete at hc
  split at hc <;> cases hc
  case h_2 =>
    obtain ⟨hw, he⟩ := h 0 0 0
    exact ⟨hw, by rw [he]⟩
  case h_3 f n =>
    obtain ⟨hw, he⟩ := h 0 n 0
    exact ⟨hw, by simp [he]⟩
  case h_4 f l u =>
    obtain ⟨hw, he⟩ := h 0 0 (Machine.pair u l)
    exact ⟨hw, by simp [he]⟩
  case h_5 f d n =>
    obtain ⟨hw, he⟩ := h d n 0
    exact ⟨hw, by simp [he]⟩

/-! ### The unprefixed map (R152) -/

theorem rowBase0_spells {y z : Nat} (hy : y < 8) (hz : z < 8) :
    (rowBase0 y z).Spells [opByte (64 * 0 + 8 * y + z)] := by
  interval_cases z
  all_goals interval_cases y <;> exact fun _ _ _ => ⟨rfl, rfl⟩

theorem rowBase1_spells {y z : Nat} (hy : y < 8) (hz : z < 8) :
    (rowBase1 y z).Spells [opByte (64 * 1 + 8 * y + z)] := by
  unfold rowBase1
  split
  case h_1 rd rs hd hs =>
    rw [regOf_some hd, regOf_some hs]
    exact fun _ _ _ => ⟨rfl, rfl⟩
  case h_2 rd hd hs =>
    rw [regOf_some hd, regOf_none hz hs]
    cases rd <;> exact fun _ _ _ => ⟨rfl, rfl⟩
  case h_3 rs hd hs =>
    rw [regOf_none hy hd, regOf_some hs]
    exact fun _ _ _ => ⟨rfl, rfl⟩
  case h_4 hd hs =>
    rw [regOf_none hy hd, regOf_none hz hs]
    exact fun _ _ _ => ⟨rfl, rfl⟩

theorem rowBase2_spells {op : Byte} (hx : fieldX op = 2) : (rowBase op).Spells [op] := by
  have hy := fieldY_lt op
  have hz := fieldZ_lt op
  have e := op_of_fields hx
  simp only [rowBase, hx]
  generalize fieldY op = y, fieldZ op = z at *
  subst e
  cases hr : regOf z with
  | some r =>
    rw [regOf_some hr]
    interval_cases y <;> exact fun _ _ _ => ⟨rfl, rfl⟩
  | none =>
    rw [regOf_none hz hr]
    interval_cases y <;> exact fun _ _ _ => ⟨rfl, rfl⟩

theorem rowBase3_spells (t : Fin 8) {z : Nat} (hz : z < 8) :
    (rowBase3 t.val z t).Spells [opByte (64 * 3 + 8 * t.val + z)] := by
  match z with
  | 3 =>
    match t with
    | 1 => exact .absent
    | 0 | 2 | 3 | 4 | 5 | 6 | 7 => exact fun _ _ _ => ⟨rfl, rfl⟩
  | 5 =>
    match t with
    | 3 | 5 | 7 => exact .absent
    | 0 | 1 | 2 | 4 | 6 => exact fun _ _ _ => ⟨rfl, rfl⟩
  | 0 | 1 | 2 | 4 | 6 | 7 => fin_cases t <;> exact fun _ _ _ => ⟨rfl, rfl⟩
  | n + 8 => omega

theorem rowBase_spells (op : Byte) : (rowBase op).Spells [op] := by
  have hlt := fieldX_lt op
  have hy := fieldY_lt op
  have hz := fieldZ_lt op
  match hx : fieldX op with
  | 0 =>
    have h := rowBase0_spells hy hz
    rw [op_of_fields hx] at h
    simpa only [rowBase, hx]
  | 1 =>
    have h := rowBase1_spells hy hz
    rw [op_of_fields hx] at h
    simpa only [rowBase, hx]
  | 2 => exact rowBase2_spells hx
  | 3 =>
    have h := rowBase3_spells (fieldY8 op) hz
    rw [fieldY8_val, op_of_fields hx] at h
    simpa only [rowBase, hx]
  | n + 4 => omega

/-! ### The CB map (R153) -/

theorem rowCB_spells (op : Byte) : (rowCB op).Spells [0xCB, op] := by
  have hx := fieldX_lt op
  have hz := fieldZ_lt op
  suffices (rowCB op).Spells [0xCB, opByte (64 * fieldX op + 8 * fieldY op + fieldZ op)] by
    rwa [op_of_fields rfl] at this
  unfold rowCB
  rw [← fieldY8_val op]
  generalize fieldX op = x at hx
  generalize fieldY8 op = b
  cases hr : regOf (fieldZ op) with
  | some r =>
    rw [regOf_some hr]
    match x with
    | 0 => fin_cases b <;> exact fun _ _ _ => ⟨rfl, rfl⟩
    | 1 | 2 | 3 => exact fun _ _ _ => ⟨rfl, rfl⟩
    | n + 4 => omega
  | none =>
    rw [regOf_none hz hr]
    interval_cases x
    all_goals fin_cases b <;> exact fun _ _ _ => ⟨rfl, rfl⟩

/-! ### The ED map (R154) -/

theorem rowED1_spells (m : Fin 8) {z : Nat} (hz : z < 8) :
    (rowED1 m.val z m).Spells [0xED, opByte (64 * 1 + 8 * m.val + z)] := by
  match z with
  | 7 =>
    match m with
    | 6 | 7 => exact .absent
    | 0 | 1 | 2 | 3 | 4 | 5 => exact fun _ _ _ => ⟨rfl, rfl⟩
  | 0 | 1 | 2 | 3 | 4 | 5 | 6 => fin_cases m <;> exact fun _ _ _ => ⟨rfl, rfl⟩
  | n + 8 => omega

theorem rowED2_spells (op : Byte) : (rowED2 op).Spells [0xED, op] := by
  unfold rowED2
  split
  case h_17 => exact .absent
  all_goals
    rename_i h
    rw [eq_opByte h]
    exact fun _ _ _ => ⟨rfl, rfl⟩

theorem rowED_spells (op : Byte) : (rowED op).Spells [0xED, op] := by
  unfold rowED
  split
  case h_1 hx =>
    have h := rowED1_spells (fieldY8 op) (fieldZ_lt op)
    rwa [fieldY8_val, op_of_fields hx] at h
  case h_2 => exact rowED2_spells op
  case h_3 => exact .absent

/-! ### The DD and FD maps (R155), which differ in the index register alone -/

theorem rowXY0_spells (op : Byte) :
    (rowIX0 op).Spells [0xDD, op] ∧ (rowIY0 op).Spells [0xFD, op] := by
  constructor
  all_goals
    simp only [rowIX0, rowIY0]
    split
    case h_19 => exact .absent
    all_goals
      rename_i h
      rw [eq_opByte h]
      exact fun _ _ _ => ⟨rfl, rfl⟩

/-- A register field beside the memory operand or a half (R146). -/
theorem rowXY1_spells {y z : Nat} (hy : y < 8) (hz : z < 8) :
    (rowIX1 y z).Spells [0xDD, opByte (64 * 1 + 8 * y + z)] ∧
      (rowIY1 y z).Spells [0xFD, opByte (64 * 1 + 8 * y + z)] := by
  constructor
  all_goals
    simp only [rowIX1, rowIY1]
    split
    case h_1 | h_2 | h_3 | h_4 => exact fun _ _ _ => ⟨rfl, rfl⟩
    case h_11 => exact .absent
    case h_5 =>
      split
      case h_1 r hr =>
        rw [regOf_some hr]
        exact fun _ _ _ => ⟨rfl, rfl⟩
      case h_2 => exact .absent
    case h_6 =>
      split
      case h_1 r hr =>
        rw [show 64 * 1 + 8 * y + 6 = 0x46 + 8 * r.code by rw [regOf_some hr]; omega]
        exact fun _ _ _ => ⟨rfl, rfl⟩
      case h_2 => exact .absent
    case h_7 | h_8 =>
      split
      case h_1 r hr =>
        have hw := notHL_of_regOf hr ‹_› ‹_›
        rw [regOf_some hr]
        exact fun _ _ _ => ⟨hw, rfl⟩
      case h_2 => exact .absent
    case h_9 =>
      split
      case h_1 r hr =>
        have hw := notHL_of_regOf hr ‹_› ‹_›
        rw [show 64 * 1 + 8 * y + 4 = 0x44 + 8 * r.code by rw [regOf_some hr]; omega]
        exact fun _ _ _ => ⟨hw, rfl⟩
      case h_2 => exact .absent
    case h_10 =>
      split
      case h_1 r hr =>
        have hw := notHL_of_regOf hr ‹_› ‹_›
        rw [show 64 * 1 + 8 * y + 5 = 0x45 + 8 * r.code by rw [regOf_some hr]; omega]
        exact fun _ _ _ => ⟨hw, rfl⟩
      case h_2 => exact .absent

/-- `alu A` of a half or the memory operand. -/
theorem rowXY2_spells {op : Byte} (hx : fieldX op = 2) :
    (rowIX op).Spells [0xDD, op] ∧ (rowIY op).Spells [0xFD, op] := by
  have hy := fieldY_lt op
  have e := op_of_fields hx
  simp only [rowIX, rowIY, hx]
  generalize fieldY op = y, fieldZ op = z at *
  subst e
  constructor
  all_goals
    split
    case h_4 => exact .absent
    all_goals interval_cases y <;> exact fun _ _ _ => ⟨rfl, rfl⟩

theorem rowXY3_spells {op : Byte} (hx : fieldX op = 3) :
    (rowIX op).Spells [0xDD, op] ∧ (rowIY op).Spells [0xFD, op] := by
  simp only [rowIX, rowIY, hx]
  constructor
  all_goals
    split
    case h_6 => exact .absent
    all_goals
      rename_i h
      rw [eq_opByte h]
      exact fun _ _ _ => ⟨rfl, rfl⟩

theorem rowXY_spells (op : Byte) : (rowIX op).Spells [0xDD, op] ∧ (rowIY op).Spells [0xFD, op] := by
  have hlt := fieldX_lt op
  match hx : fieldX op with
  | 0 =>
    simp only [rowIX, rowIY, hx]
    exact rowXY0_spells op
  | 1 =>
    have h := rowXY1_spells (fieldY_lt op) (fieldZ_lt op)
    simp only [rowIX, rowIY, hx]
    rwa [op_of_fields hx] at h
  | 2 => exact rowXY2_spells hx
  | 3 => exact rowXY3_spells hx
  | n + 4 => omega

/-! ### The DD CB and FD CB maps (R156) -/

theorem rowXYCB_spells (d op : Byte) :
    Spells [0xDD, 0xCB, d, op] (rowIXCB d op) ∧ Spells [0xFD, 0xCB, d, op] (rowIYCB d op) := by
  have hx := fieldX_lt op
  have hz := fieldZ_lt op
  have e := op_of_fields (op := op) rfl
  simp only [rowIXCB, rowIYCB]
  rw [← fieldY8_val op] at *
  generalize fieldX op = x, fieldY8 op = b, fieldZ op = z at *
  subst e
  cases hr : regOf z with
  | some r =>
    rw [regOf_some hr]
    match x with
    | 0 => constructor <;> fin_cases b <;> exact ⟨rfl, rfl⟩
    | 1 | 2 | 3 => exact ⟨⟨rfl, rfl⟩, ⟨rfl, rfl⟩⟩
    | n + 4 => omega
  | none =>
    rw [regOf_none hz hr]
    interval_cases x
    all_goals constructor <;> fin_cases b <;> exact ⟨rfl, rfl⟩

/-! ### The decoder (R142) -/

/-- After a first byte CB or ED. -/
theorem spelled_of_decodePrefixed {p : Byte} {row : Byte → Row}
    (hrow : ∀ op, (row op).Spells [p, op]) {bs rest : List Byte} {i : Instr} (h : decodePrefixed row bs = .ok i rest) :
    i.wf = true ∧ p :: bs = encode i ++ rest := by
  cases bs with
  | nil => cases h
  | cons op bs => exact (hrow op).of_complete h

/-- After a first byte DD or FD. -/
theorem spelled_of_decodeIndexed {p : Byte} {row : Byte → Row} {rowCB : Byte → Byte → Instr}
    (hrow : ∀ op, (row op).Spells [p, op]) (hcb : ∀ d op, Spells [p, 0xCB, d, op] (rowCB d op))
    {bs rest : List Byte} {i : Instr} (h : decodeIndexed row rowCB bs = .ok i rest) :
    i.wf = true ∧ p :: bs = encode i ++ rest := by
  match bs with
  | [] => cases h
  | b1 :: bs =>
    simp only [decodeIndexed] at h
    split at h
    case isFalse => exact (hrow b1).of_complete h
    case isTrue hb =>
      subst hb
      split at h <;> cases h
      obtain ⟨hw, he⟩ := hcb _ _
      exact ⟨hw, by rw [he]; rfl⟩

/-- An accepted string is the spelling of the row its bytes select, and what the row leaves. -/
theorem spelled_of_decode {bs rest : List Byte} {i : Instr} (h : decode bs = .ok i rest) :
    i.wf = true ∧ bs = encode i ++ rest := by
  cases bs with
  | nil => cases h
  | cons b0 bs =>
    simp only [decode] at h
    split_ifs at h with hcb hed hdd hfd
    · exact hcb ▸ spelled_of_decodePrefixed rowCB_spells h
    · exact hed ▸ spelled_of_decodePrefixed rowED_spells h
    · exact hdd ▸ spelled_of_decodeIndexed (fun op => (rowXY_spells op).1)
        (fun d op => (rowXYCB_spells d op).1) h
    · exact hfd ▸ spelled_of_decodeIndexed (fun op => (rowXY_spells op).2)
        (fun d op => (rowXYCB_spells d op).2) h
    · exact (rowBase_spells b0).of_complete h

/-- Settles O2, by the maps: every row of each spells the bytes that select it. -/
theorem encodeOfDecode : Obligations.EncodeOfDecode := fun _ _ _ => spelled_of_decode

end Sys2Proof
end

section
/-! How the decoder's answer changes as bytes come one at a time (R140, R142). -/

namespace Sys2Proof

/-! ### Bytes that select no row -/

theorem Row.complete_append_unknown {row : Row} {bs : List Byte} (h : row.complete bs = .unknown)
    (more : List Byte) : row.complete (bs ++ more) = .unknown := by
  unfold Row.complete at h
  split at h <;> cases h
  rfl

theorem decodePrefixed_append_unknown {row : Byte → Row} {bs : List Byte}
    (h : decodePrefixed row bs = .unknown) (more : List Byte) :
    decodePrefixed row (bs ++ more) = .unknown := by
  cases bs with
  | nil => cases h
  | cons op bs => exact Row.complete_append_unknown h more

theorem decodeIndexed_append_unknown {row : Byte → Row} {rowCB : Byte → Byte → Instr}
    {bs : List Byte} (h : decodeIndexed row rowCB bs = .unknown) (more : List Byte) :
    decodeIndexed row rowCB (bs ++ more) = .unknown := by
  cases bs with
  | nil => cases h
  | cons b1 bs =>
    simp only [decodeIndexed, List.cons_append] at h ⊢
    split at h
    case isTrue => split at h <;> cases h
    case isFalse hb =>
      rw [if_neg hb]
      exact Row.complete_append_unknown h more

/-- Bytes that select no row select none with more bytes after them. -/
theorem decode_append_unknown {bs : List Byte} (h : decode bs = .unknown) (more : List Byte) :
    decode (bs ++ more) = .unknown := by
  cases bs with
  | nil => cases h
  | cons b0 bs =>
    simp only [decode, List.cons_append] at h ⊢
    split_ifs at h ⊢
    · exact decodePrefixed_append_unknown h more
    · exact decodePrefixed_append_unknown h more
    · exact decodeIndexed_append_unknown h more
    · exact decodeIndexed_append_unknown h more
    · exact Row.complete_append_unknown h more

/-! ### Bytes that end before the instruction -/

theorem Row.length_of_complete_more {row : Row} {bs : List Byte} (h : row.complete bs = .more) :
    bs.length ≤ 1 := by
  unfold Row.complete at h
  split at h <;> cases h <;> simp

theorem length_of_decodePrefixed_more {row : Byte → Row} {bs : List Byte}
    (h : decodePrefixed row bs = .more) : bs.length ≤ 2 := by
  cases bs with
  | nil => simp
  | cons op bs => exact Nat.succ_le_succ (Row.length_of_complete_more h)

theorem length_of_decodeIndexed_more {row : Byte → Row} {rowCB : Byte → Byte → Instr}
    {bs : List Byte} (h : decodeIndexed row rowCB bs = .more) : bs.length ≤ 2 := by
  cases bs with
  | nil => simp
  | cons b1 bs =>
    simp only [decodeIndexed] at h
    split at h
    case isTrue => split at h <;> cases h <;> simp
    case isFalse => exact Nat.succ_le_succ (Row.length_of_complete_more h)

/-- An instruction has at most four bytes (R140): where one more is wanted, at most three came. -/
theorem length_of_decode_more {bs : List Byte} (h : decode bs = .more) : bs.length ≤ 3 := by
  cases bs with
  | nil => simp
  | cons b0 bs =>
    refine Nat.succ_le_succ ?_
    simp only [decode] at h
    split_ifs at h
    · exact length_of_decodePrefixed_more h
    · exact length_of_decodePrefixed_more h
    · exact length_of_decodeIndexed_more h
    · exact length_of_decodeIndexed_more h
    · exact (Row.length_of_complete_more h).trans (by decide)

/-! ### Whole instructions -/

/-- What an accepted string decodes to does not depend on the bytes after it. -/
theorem decode_append_ok {bs rest : List Byte} {i : Instr} (h : decode bs = .ok i rest)
    (more : List Byte) : decode (bs ++ more) = .ok i (rest ++ more) := by
  obtain ⟨hw, rfl⟩ := spelled_of_decode h
  rw [List.append_assoc]
  exact decode_encode i _ hw

/-- An encoding alone decodes to its instruction. -/
theorem decode_encode_nil {i : Instr} (hw : i.wf = true) : decode (encode i) = .ok i [] := by
  simpa using decode_encode i [] hw

/-- The bytes of an encoding short of the last are neither refused nor a whole instruction. -/
theorem decode_take_encode {i : Instr} (hw : i.wf = true) {n : Nat} (hn : n < (encode i).length) :
    decode ((encode i).take n) = .more := by
  have whole := decode_encode_nil hw
  rw [← List.take_append_drop n (encode i)] at whole
  match h : decode ((encode i).take n) with
  | .more => rfl
  | .unknown =>
    rw [decode_append_unknown h] at whole
    cases whole
  | .ok j rest =>
    rw [decode_append_ok h] at whole
    injection whole with _ hnil
    have hdrop : (encode i).drop n = [] := (List.append_eq_nil_iff.1 hnil).2
    exact absurd (List.drop_eq_nil_iff.1 hdrop) (by omega)

/-- The byte that completes an instruction is its last one. -/
theorem rest_eq_nil_of_more {got rest : List Byte} {b : Byte} {i : Instr} (hm : decode got = .more)
    (h : decode (got ++ [b]) = .ok i rest) : rest = [] := by
  obtain ⟨hw, he⟩ := spelled_of_decode h
  rcases List.eq_nil_or_concat rest with hr | ⟨r, c, rfl⟩
  · exact hr
  · rw [List.concat_eq_append, ← List.append_assoc] at he
    obtain ⟨hg, -⟩ := List.append_inj' he rfl
    rw [hg, decode_encode i r hw] at hm
    cases hm

end Sys2Proof
end

section
/-! The fetch: what it answers on code outside the keyboard region (O4), and every fault it raises
(O5). -/

namespace Sys2Proof.Machine

variable {s d : State}

/-- How the fetch ends once it has read `bytes`, whose decoding is no longer `more`: the instruction
if it is admitted, else the refusal (R141, R142). -/
def State.fetched (s : State) (bytes : List Byte) : Except Fault (Instr × Nat × State) :=
  match decode bytes with
  | .ok i _ =>
    if s.admits i then .ok (i, bytes.length, s) else .error (s.fatal (.unknownOpcode bytes))
  | .more => .error (s.fatal (.unknownOpcode bytes))
  | .unknown => .error (s.fatal (.unknownOpcode bytes))

theorem State.fetched_admitted {bytes rest : List Byte} {i : Instr} (h : decode bytes = .ok i rest)
    (ha : s.admits i = true) : s.fetched bytes = .ok (i, bytes.length, s) := by
  simp [State.fetched, h, ha]

theorem State.fetched_barred {bytes rest : List Byte} {i : Instr} (h : decode bytes = .ok i rest)
    (ha : s.admits i = false) : s.fetched bytes = .error (s.fatal (.unknownOpcode bytes)) := by
  simp [State.fetched, h, ha]

theorem State.fetched_unknown {bytes : List Byte} (h : decode bytes = .unknown) :
    s.fetched bytes = .error (s.fatal (.unknownOpcode bytes)) := by
  simp [State.fetched, h]

/-- One byte of the fetch outside the keyboard region. -/
theorem fetchFrom_succ {got : List Byte} {b : Byte} {fuel : Nat}
    (hr : s.region (s.cpu.pc + BitVec.ofNat 16 got.length) ≠ .keyboard)
    (hb : s.fetchByte (s.cpu.pc + BitVec.ofNat 16 got.length) = b) :
    s.fetchFrom (fuel + 1) got =
      if decode (got ++ [b]) = .more then s.fetchFrom fuel (got ++ [b])
      else s.fetched (got ++ [b]) := by
  simp only [State.fetchFrom, State.afterRead_plain s hr, hb, State.fetched]
  cases decode (got ++ [b]) <;> rfl

/-- The fetch reads code up to the byte that decides. -/
theorem fetchFrom_code {bs got : List Byte} {fuel : Nat} (hlen : bs.length ≤ fuel) (hne : bs ≠ [])
    (hc : s.CodeAt (s.cpu.pc + BitVec.ofNat 16 got.length) bs)
    (hm : ∀ n, n < bs.length → decode (got ++ bs.take n) = .more)
    (hd : decode (got ++ bs) ≠ .more) : s.fetchFrom fuel got = s.fetched (got ++ bs) := by
  induction bs generalizing got fuel with
  | nil => exact absurd rfl hne
  | cons b bs ih =>
    obtain ⟨hr, hb, hc⟩ := hc
    obtain ⟨fuel, rfl⟩ : ∃ k, fuel = k + 1 := ⟨fuel - 1, by simp at hlen; omega⟩
    rw [fetchFrom_succ hr hb]
    by_cases hnil : bs = []
    · subst hnil
      rw [if_neg hd]
    · have h1 : decode (got ++ [b]) = .more := by
        simpa using hm 1 (by simpa [List.length_pos_iff] using hnil)
      have hpc : s.cpu.pc + BitVec.ofNat 16 got.length + 1 =
          s.cpu.pc + BitVec.ofNat 16 (got ++ [b]).length := by
        simp [BitVec.ofNat_add, BitVec.add_assoc]
      rw [if_pos h1, ih (by simpa using hlen) hnil (hpc ▸ hc), List.append_assoc]
      · rfl
      · intro n hn
        simpa using hm (n + 1) (by simpa using hn)
      · simpa using hd

/-- On code at PC whose last byte decides, the fetch answers by its decoding and changes nothing. -/
theorem fetch_code {bs : List Byte} (hc : s.CodeAt s.cpu.pc bs)
    (hm : ∀ n, n < bs.length → decode (bs.take n) = .more) (hd : decode bs ≠ .more) :
    s.fetch = s.fetched bs := by
  have hne : bs ≠ [] := fun e => hd (e ▸ rfl)
  have hpos := List.length_pos_iff.2 hne
  have hlen := length_of_decode_more (hm (bs.length - 1) (by omega))
  rw [List.length_take] at hlen
  exact fetchFrom_code (got := []) (by omega) hne (by simpa using hc) hm hd

/-- On the encoding of a well-formed instruction the fetch decides by its group alone (R141). -/
theorem fetch_encode {i : Instr} (hw : i.wf = true) (hc : s.CodeAt s.cpu.pc (encode i)) :
    s.fetch = s.fetched (encode i) :=
  fetch_code hc (fun _ => decode_take_encode hw) (by simp [decode_encode_nil hw])

/-- Settles O4: the encoding of an admitted instruction decides the fetch at its last byte. -/
theorem fetchReadsCode : Obligations.FetchReadsCode := by
  refine ⟨fun s i hw ha hc => ?_, fun s a => ?_⟩
  · rw [fetch_encode hw hc, State.fetched_admitted (decode_encode_nil hw) ha]
  · simp only [State.fetchByte, bareFirstFetch_iff]

/-! ### Refusals -/

/-- The fetch from `s` has read `got` and stands at `t`: reads change the keyboard at most (R85),
and a byte outside its region is the one that stood there at the start. -/
structure Fetching (s : State) (got : List Byte) (t : State) : Prop where
  kbdOnly : ∃ k, t = { s with kbd := k }
  read : ∀ n b, got[n]? = some b → s.region (s.cpu.pc + BitVec.ofNat 16 n) ≠ .keyboard →
    b = s.fetchByte (s.cpu.pc + BitVec.ofNat 16 n)

theorem Fetching.start (s : State) : Fetching s [] s := ⟨⟨s.kbd, rfl⟩, by simp⟩

/-- Outside the keyboard region the fetch depends on memory, its map, the clock and PC. -/
theorem fetchByte_plain {t : State} (hc : t.cpu.pc = s.cpu.pc) (hr : t.romSize = s.romSize)
    (hk : t.clock = s.clock) (hm : t.mem = s.mem) {a : Word} (h : s.region a ≠ .keyboard) :
    t.fetchByte a = s.fetchByte a :=
  fetchByte_congr hc hr hk (State.readByte_congr hr.symm (by rw [hm]) h)

theorem Fetching.succ {t : State} {got : List Byte} (h : Fetching s got t) :
    Fetching s (got ++ [t.fetchByte (t.cpu.pc + BitVec.ofNat 16 got.length)])
      (t.afterRead (t.cpu.pc + BitVec.ofNat 16 got.length)) := by
  obtain ⟨⟨k, rfl⟩, hread⟩ := h
  refine ⟨⟨_, State.afterRead_eq _ _⟩, fun n b hn hreg => ?_⟩
  rcases Nat.lt_trichotomy n got.length with hlt | rfl | hgt
  · exact hread n b (by rwa [List.getElem?_append_left hlt] at hn) hreg
  · rw [List.getElem?_concat_length, Option.some.injEq] at hn
    exact hn ▸ fetchByte_plain (s := s) (t := { s with kbd := k }) rfl rfl rfl rfl hreg
  · simp [List.getElem?_eq_none (show (got ++ [_]).length ≤ n by simpa using hgt)] at hn

/-- What the fault of a fetch from `s` says. -/
def RefusedFetch (s : State) (f : Fault) : Prop :=
  ∃ bytes k, 1 ≤ bytes.length ∧ bytes.length ≤ 4 ∧
    (decode bytes = .unknown ∨ ∃ i, decode bytes = .ok i [] ∧ s.admits i = false) ∧
    (∀ n b, bytes[n]? = some b → s.region (s.cpu.pc + BitVec.ofNat 16 n) ≠ .keyboard →
      b = s.fetchByte (s.cpu.pc + BitVec.ofNat 16 n)) ∧
    f = .fatal (.unknownOpcode bytes) { s with kbd := k, fault := some (.unknownOpcode bytes) }

/-- A fetch under way that faults has read bytes that are refused: it does not run out of fuel,
since four bytes decide (R140). -/
theorem refusedFetch_of_fetching {t : State} {got : List Byte} {fuel : Nat} {f : Fault}
    (hg : Fetching s got t) (hm : decode got = .more) (hlen : got.length + fuel = 4)
    (hf : t.fetchFrom fuel got = .error f) : RefusedFetch s f := by
  induction fuel generalizing got t with
  | zero =>
    have := length_of_decode_more hm
    omega
  | succ fuel ih =>
    have hnext := hg.succ
    unfold State.fetchFrom at hf
    dsimp only at hf
    generalize t.fetchByte (t.cpu.pc + BitVec.ofNat 16 got.length) = b at *
    generalize t.afterRead (t.cpu.pc + BitVec.ofNat 16 got.length) = u at *
    have hlen' : (got ++ [b]).length = got.length + 1 := by simp
    have refused (hd : decode (got ++ [b]) = .unknown ∨
        ∃ i, decode (got ++ [b]) = .ok i [] ∧ s.admits i = false)
        (hx : u.fatal (.unknownOpcode (got ++ [b])) = f) : RefusedFetch s f := by
      obtain ⟨⟨k, rfl⟩, hread⟩ := hnext
      exact ⟨got ++ [b], k, by omega, by omega, hd, hread, hx.symm⟩
    split at hf
    case h_1 hd => exact ih hnext hd (by omega) hf
    case h_2 hd =>
      injection hf with hx
      exact refused (.inl hd) hx
    case h_3 i rest hd =>
      obtain rfl := rest_eq_nil_of_more hm hd
      have hadm : u.admits i = s.admits i := by
        obtain ⟨⟨k, rfl⟩, -⟩ := hnext
        rfl
      split at hf
      case isTrue => cases hf
      case isFalse hx =>
        injection hf with he
        exact refused (.inr ⟨i, hd, by simpa [hadm] using hx⟩) he

theorem refusedFetch_of_fetch {f : Fault} (h : s.fetch = .error f) : RefusedFetch s f :=
  refusedFetch_of_fetching (.start s) rfl rfl h

/-- Clearing skipBreak moves no code. -/
theorem State.CodeAt.skipBreak {a : Word} {bs : List Byte} (h : d.CodeAt a bs) (b : Bool) :
    ({ d with skipBreak := b } : State).CodeAt a bs := by
  induction bs generalizing a with
  | nil => trivial
  | cons x bs ih =>
    obtain ⟨hr, hb, hc⟩ := h
    have hx := fetchByte_plain (s := d) (t := { d with skipBreak := b }) rfl rfl rfl rfl hr
    exact ⟨hr, hx.trans hb, ih hc⟩

/-- A step that is due faults as its fetch does. -/
theorem step_fetch_error {f : Fault} (h : s.Due d)
    (hf : ({ d with skipBreak := false } : State).fetch = .error f) : step s = .fault f := by
  rw [step_due h, State.runInstruction, hf]

/-- Settles O5: a fetch under way that faults has read refused bytes; on code the fetch, and with
it the step, answers by the code's decoding. -/
theorem decodeRefusal : Obligations.DecodeRefusal := by
  refine ⟨fun s f => refusedFetch_of_fetch, fun s d bytes hdue hcode hbytes => ?_⟩
  have hc := hcode.skipBreak false
  refine step_fetch_error hdue ?_
  rcases hbytes with ⟨hd, hm⟩ | ⟨hu, i, hw, hx, rfl⟩
  · rw [fetch_code hc hm (by simp [hd]), State.fetched_unknown hd]
    rfl
  · have barred : ({ d with skipBreak := false } : State).admits i = false := by
      simp [State.admits, hu, hx]
    rw [fetch_encode hw hc, State.fetched_barred (decode_encode_nil hw) barred]
    rfl

end Sys2Proof.Machine
end

section
/-! The opcode maps byte by byte (O3). -/

namespace Sys2Proof.Machine

/-- Settles O3: each map is run through for every opcode byte; in the XYCB maps the row is given. -/
theorem sampleWords : Obligations.SampleWords := by
  refine ⟨rfl, rfl, rfl, rfl, rfl, rfl, rfl, rfl, ?ed, ?xy, ?base, ?cb, ?xycb⟩
  case ed => decide
  case xy => decide
  case base => decide
  case cb => decide
  case xycb =>
    intro p hp d op
    rcases List.mem_pair.1 hp with rfl | rfl
    · exact ⟨rowIXCB d op, rfl⟩
    · exact ⟨rowIYCB d op, rfl⟩

end Sys2Proof.Machine
end

section
/-! The 8-bit loads (O13, O14, O15). An instruction of the family is a change of the registers, a
byte read through the router into a register, or a byte stored through the router, with its cycles
added last: what each of the three shapes does is said once, and each form is an instance. -/

namespace Sys2Proof.Machine

variable {s : State} {i : Instr} {n : Nat}

/-! ### The three shapes -/

/-- The shape of a transfer between registers: `c` replaces the registers. -/
theorem Runs.of_setCpu {c : Regs} (h : exec i s = .next ((s.setCpu c).tick n)) :
    Runs i s { s with cpu := c, clock := s.clock + n } [] :=
  .plain h rfl rfl

theorem State.loadReg_tick (s : State) (r : Reg8) (a : Word) (n : Nat) :
    (s.loadReg r a).tick n =
      { s.afterRead a with cpu := s.cpu.set r (s.readByte a), clock := s.clock + n } := by
  simp [State.loadReg, State.setReg, State.tick]

/-- The shape of a load from memory: the read may run the keyboard's dequeue, and no cell
changes. -/
theorem Runs.of_loadReg {r : Reg8} {a : Word} (h : exec i s = .next ((s.loadReg r a).tick n)) :
    Runs i s { s.afterRead a with cpu := s.cpu.set r (s.readByte a), clock := s.clock + n } [] :=
  .plain (by rw [h, State.loadReg_tick]) (by simp) (by simp)

/-- The shape of a store: the router changes at most the byte at `a`. -/
theorem Runs.of_memWrite {a : Word} {v : Byte} (h : exec i s = .next ((s.memWrite a v).tick n)) :
    Runs i s { s.memWrite a v with clock := s.clock + n } [a] := by
  refine ⟨?next, ?frame⟩
  case next => rw [h, State.tick, State.memWrite_clock]
  case frame => exact .memWrite a v rfl (by simp) rfl

/-! ### The loads and the stores -/

/-- A half written with its own value: both halves are kept (R216). -/
@[simp] theorem Regs.setHalf_getHalf (c : Regs) (x : Idx) (h : Half) :
    c.setHalf x h (c.getHalf x h) = c := by
  cases x <;> cases h <;> simp [Regs.setHalf, Regs.getHalf, Regs.setIdx, Regs.getIdx]

/-- `LD HX,HX` and its like: only the clock moves (R216). -/
theorem Runs.of_setHalf_self {x : Idx} {h : Half}
    (he : exec i s = .next ((s.setHalf x h (s.half x h)).tick n)) :
    Runs i s { s with clock := s.clock + n } [] :=
  .of_setCpu (he.trans (by rw [State.setHalf, State.half, Regs.setHalf_getHalf]))

/-- Settles O13: every form reads memory into a register or moves a byte between registers. -/
theorem byteLoads : Obligations.ByteLoads := by
  intro s r r' n d nn
  exact ⟨.of_setCpu rfl, .of_setCpu rfl,
    -- from memory, at HL, IX+d, IY+d, BC, DE and nn
    .of_loadReg rfl, .of_loadReg rfl, .of_loadReg rfl,
    .of_loadReg (r := .a) rfl, .of_loadReg (r := .a) rfl, .of_loadReg (r := .a) rfl,
    -- the halves of IX
    .of_setCpu rfl, .of_setCpu rfl, .of_setCpu rfl, .of_setCpu rfl,
    .of_setHalf_self (h := .high) rfl, .of_setCpu rfl, .of_setCpu rfl,
    .of_setHalf_self (h := .low) rfl, .of_setCpu rfl, .of_setCpu rfl,
    -- the halves of IY
    .of_setCpu rfl, .of_setCpu rfl, .of_setCpu rfl, .of_setCpu rfl,
    .of_setHalf_self (h := .high) rfl, .of_setCpu rfl, .of_setCpu rfl,
    .of_setHalf_self (h := .low) rfl, .of_setCpu rfl, .of_setCpu rfl⟩

/-- Settles O14: every form stores one byte through the router. -/
theorem byteStores : Obligations.ByteStores := fun _ _ _ _ _ =>
  ⟨.of_memWrite rfl, .of_memWrite rfl, .of_memWrite rfl, .of_memWrite rfl, .of_memWrite rfl,
    .of_memWrite rfl, .of_memWrite rfl, .of_memWrite rfl, .of_memWrite rfl⟩

/-! ### I and R -/

/-- The flags of R218 and R219, bit by bit. -/
theorem ldAIRFlags_bits (old : Flags) (v : Byte) (iff2 : Bool) :
    FlagBits (ldAIRFlags old v iff2).toByte (v.getLsbD 7) (decide (v = 0)) false iff2 false old.c ∧
      Undoc53 (ldAIRFlags old v iff2).toByte (v.getLsbD 5) (v.getLsbD 3) :=
  ⟨Flags.toByte_bits _, Flags.toByte_undoc _⟩

/-- The read of R uses a draw at most (R13). -/
theorem State.afterRefreshRead_eq (s : State) :
    s.afterRefreshRead = { s with drawNo := s.afterRefreshRead.drawNo } := by
  unfold State.afterRefreshRead
  cases s.cfg.rPolicy <;> rfl

/-- Bit 7 of R is stored under both policies: only the low bits are drawn (R38, R219). -/
theorem State.refreshRead_bit7 (s : State) : s.refreshRead.getLsbD 7 = s.cpu.r.getLsbD 7 := by
  unfold State.refreshRead
  cases s.cfg.rPolicy with
  | draw => simp
  | count => rfl

/-- When R_POLICY counts the whole of R is read (R38, R219). -/
theorem State.refreshRead_count (h : s.cfg.rPolicy = .count) : s.refreshRead = s.cpu.r := by
  rw [State.refreshRead, h]

/-- `LD A,R` (R219): A, the flags, the clock and the draw counter. -/
theorem runs_ldARefresh (s : State) :
    Runs .ldARefresh s
      { s with
        cpu := { s.cpu with
          a := s.refreshRead, f := (ldAIRFlags s.flags s.refreshRead s.cpu.iff2).toByte }
        clock := s.clock + 9
        drawNo := s.afterRefreshRead.drawNo } [] := by
  refine .plain ?_ rfl rfl
  change execLdARefresh s = _
  rw [execLdARefresh, State.afterRefreshRead_eq]
  rfl

/-- Settles O15: the flags of `LD A,I` and `LD A,R` are one formula, on I and on what the policy
lets R be read as. -/
theorem vectorAndRefresh : Obligations.VectorAndRefresh := by
  intro s
  have flags (v : Byte) := ldAIRFlags_bits s.flags v s.cpu.iff2
  exact ⟨.of_setCpu rfl, .of_setCpu rfl, ⟨_, .of_setCpu rfl, flags s.cpu.i⟩,
    ⟨_, _, _, runs_ldARefresh s, s.refreshRead_bit7, State.refreshRead_count, flags s.refreshRead⟩⟩

end Sys2Proof.Machine
end

section
/-! The 16-bit loads (O16), the stack (O11) and the exchanges (O18). An instruction of the family is
a change of the registers, a word read through the router into registers, a word stored through the
router, a push, or an exchange with the word at SP: each shape is said once, as for the 8-bit
loads, and each form is a case of one. -/

namespace Sys2Proof.Machine

/-! ### Push and pop -/

section
variable {s : State}

/-- The router does not look at the stack pointer. -/
theorem State.Holds.setSP {a : Word} {v : Byte} (h : s.Holds a v) (w : Word) :
    (s.setSP w).Holds a v where
  writable := by rw [State.writable_setSP, h.writable]
  cell := h.cell
  flag := h.flag

/-- A push leaves the high byte at SP−1: the low byte is stored after it, to another address. -/
theorem State.push_holds_high (w : Word) (h : s.writable (s.cpu.sp - 1) = true) :
    (s.push w).Holds (s.cpu.sp - 1) (hi w) := by
  have stored := (s.setSP (s.cpu.sp - 1)).holds_memWrite (hi w) (by rwa [State.writable_setSP])
  exact (stored.setSP (s.cpu.sp - 2)).memWrite_other (lo w) (by bv_omega)

/-- A push leaves the low byte at SP−2. -/
theorem State.push_holds_low (w : Word) (h : s.writable (s.cpu.sp - 2) = true) :
    (s.push w).Holds (s.cpu.sp - 2) (lo w) :=
  State.holds_memWrite _ (lo w) (by simpa using h)

/-- A word pushed to writable bytes is the word popped. -/
theorem State.popWord_push (w : Word) (h1 : s.writable (s.cpu.sp - 1) = true)
    (h2 : s.writable (s.cpu.sp - 2) = true) : (s.push w).popWord = w := by
  have high := s.push_holds_high w h1
  have low := s.push_holds_low w h2
  have next : s.cpu.sp - 2 + 1 = s.cpu.sp - 1 := by bv_omega
  rw [State.popWord, State.push_cpu, State.readWord_of_writable _ low.writable, next, high.readByte,
    low.readByte, pair_hi_lo]

/-- The pop takes back what the push did to the CPU. -/
theorem State.afterPop_push_cpu (w : Word) : (s.push w).afterPop.cpu = s.cpu := by
  rw [State.afterPop_cpu, State.push_cpu, BitVec.sub_add_cancel]

end

/-- Settles O11: the two bytes hold the word's halves, and the pop reads them back. -/
theorem pushThenPop : Obligations.PushThenPop := by
  intro s w hr1 hm1 hr2 hm2
  have h1 : s.writable (s.cpu.sp - 1) = true := s.writable_iff.2 ⟨hr1, by omega⟩
  have h2 : s.writable (s.cpu.sp - 2) = true := s.writable_iff.2 ⟨hr2, by omega⟩
  exact ⟨(s.push_holds_high w h1).readByte, (s.push_holds_low w h2).readByte, s.push_cpu w,
    s.popWord_push w h1 h2, s.afterPop_push_cpu w, .push w (s.push_romSize w) rfl⟩

/-! ### The shapes -/

section
variable {s : State} {i : Instr} {n : Nat}

theorem State.setCpu_tick (u : State) (c : Regs) (n : Nat) :
    (u.setCpu c).tick n = { u with cpu := c, clock := u.clock + n } := rfl

/-- The shape of a load of a word: the reads may run the keyboard's dequeue, `f` is what becomes of
the registers, and no cell changes. -/
theorem Runs.of_readWord {a : Word} (f : Regs → Regs)
    (h : exec i s = .next (((s.afterReadWord a).setCpu (f (s.afterReadWord a).cpu)).tick n)) :
    Runs i s { s.afterReadWord a with cpu := f s.cpu, clock := s.clock + n } [] := by
  refine .plain ?next (s.afterReadWord_romSize a) (s.afterReadWord_mem a)
  case next => rw [h, State.setCpu_tick, State.afterReadWord_cpu, State.afterReadWord_clock]

/-- The shape of a pop: the word at SP is loaded and SP goes up by 2. -/
theorem Runs.of_pop (f : Regs → Regs)
    (h : exec i s = .next ((s.afterPop.setCpu (f s.afterPop.cpu)).tick n)) :
    Runs i s
      { s.afterReadWord s.cpu.sp with
        cpu := f { s.cpu with sp := s.cpu.sp + 2 }, clock := s.clock + n } [] :=
  .of_readWord (fun c => f { c with sp := s.cpu.sp + 2 }) h

/-- The shape of a store of a word: the router changes at most the bytes at `a` and `a + 1`. -/
theorem Runs.of_memWriteWord {a w : Word}
    (h : exec i s = .next ((s.memWriteWord a w).tick n)) :
    Runs i s { s.memWriteWord a w with clock := s.clock + n } [a, a + 1] := by
  refine ⟨?next, ?frame⟩
  case next => rw [h, State.tick, State.memWriteWord_clock]
  case frame => exact .memWriteWord a w rfl (s.memWriteWord_romSize a w) rfl

/-- The shape of a push: the router changes at most the two bytes below SP. -/
theorem Runs.of_push {w : Word} (h : exec i s = .next ((s.push w).tick n)) :
    Runs i s { s.push w with clock := s.clock + n } [s.cpu.sp - 1, s.cpu.sp - 2] := by
  refine ⟨?next, ?frame⟩
  case next => rw [h, State.tick, State.push_clock]
  case frame => exact .push w (s.push_romSize w) rfl

@[simp] theorem State.swapTop_cpu (s : State) (w : Word) : (s.swapTop w).cpu = s.cpu := by
  simp [State.swapTop]
@[simp] theorem State.swapTop_romSize (s : State) (w : Word) :
    (s.swapTop w).romSize = s.romSize := by
  simp [State.swapTop]
@[simp] theorem State.swapTop_clock (s : State) (w : Word) : (s.swapTop w).clock = s.clock := by
  simp [State.swapTop]

/-- The shape of an exchange with the word at SP: it is read, `w` is stored in its place, and `f` is
what becomes of the registers. -/
theorem Runs.of_swapTop {w : Word} (f : Regs → Regs)
    (h : exec i s = .next (((s.swapTop w).setCpu (f (s.swapTop w).cpu)).tick n)) :
    Runs i s { s.swapTop w with cpu := f s.cpu, clock := s.clock + n }
      [s.cpu.sp, s.cpu.sp + 1] := by
  refine ⟨?next, ?frame⟩
  case next => rw [h, State.setCpu_tick, State.swapTop_cpu, State.swapTop_clock]
  case frame =>
    exact .memWriteWord s.cpu.sp w (s.afterReadWord_mem s.cpu.sp) (s.swapTop_romSize w) rfl

end

/-! ### The loads, the stack forms and the exchanges -/

/-- Settles O16: every form moves a word between registers, or reads or stores one. -/
theorem wordLoads : Obligations.WordLoads := by
  intro s p nn
  exact ⟨.of_setCpu rfl,
    -- HL and dd
    .of_readWord (·.setHL (s.readWord nn)) rfl, .of_readWord (·.setPair p (s.readWord nn)) rfl,
    .of_memWriteWord rfl, .of_memWriteWord rfl,
    -- IX
    .of_setCpu rfl, .of_readWord (·.setIdx .ix (s.readWord nn)) rfl, .of_memWriteWord rfl,
    .of_setCpu rfl,
    -- IY
    .of_setCpu rfl, .of_readWord (·.setIdx .iy (s.readWord nn)) rfl, .of_memWriteWord rfl,
    .of_setCpu rfl,
    -- LD SP,HL
    .of_setCpu rfl⟩

/-- `EX DE,HL` byte by byte (R260). -/
theorem Regs.setDE_hl_setHL_de (c : Regs) :
    (c.setDE c.hl).setHL c.de = { c with d := c.h, e := c.l, h := c.d, l := c.e } := by
  simp only [Regs.setDE, Regs.setHL, Regs.hl, Regs.de, hi_pair, lo_pair]

theorem runs_exDEHL (s : State) :
    Runs .exDEHL s
      { s with
        cpu := { s.cpu with d := s.cpu.h, e := s.cpu.l, h := s.cpu.d, l := s.cpu.e }
        clock := s.clock + 4 } [] := by
  rw [← Regs.setDE_hl_setHL_de]
  exact .of_setCpu rfl

/-- Settles O18: every form pushes, pops, exchanges with the word at SP, or swaps registers. -/
theorem stackAndExchange : Obligations.StackAndExchange := by
  intro s q
  exact ⟨.of_push rfl, .of_pop (·.setStackPair q s.popWord) rfl,
    .of_push rfl, .of_pop (·.setIdx .ix s.popWord) rfl,
    .of_push rfl, .of_pop (·.setIdx .iy s.popWord) rfl,
    -- EX DE,HL, EX AF,AF' and EXX
    runs_exDEHL s, .of_setCpu rfl, .of_setCpu rfl,
    -- with the word at SP
    .of_swapTop (·.setHL s.popWord) rfl, .of_swapTop (·.setIdx .ix s.popWord) rfl,
    .of_swapTop (·.setIdx .iy s.popWord) rfl⟩

end Sys2Proof.Machine
end

section
/-! Block transfer (O19) and block search (O20). The state an iteration leaves is said once for each
group, for either direction, with PC and the clock open: the repeating forms differ from the single
ones in those two fields alone (R265). -/

namespace Sys2Proof.Machine

/-! ### What the two groups share -/

/-- F as `setFlagsUndoc` writes it when F5 and F3 are the `[gk-undoc]` bits (R14). -/
def State.undocByte (s : State) (f : Flags) : Byte :=
  drawnByte f (Config.draw s.drawNo) (undocMask s.cfg.undocFlags maskF53)

/-- Registers and flags written to `t`, which has the clock, draw counter and policies of `s`. -/
theorem State.setCpu_setFlagsUndoc (s : State) {t : State} (c : Regs) (f : Flags)
    (hk : t.clock = s.clock) (hd : t.drawNo = s.drawNo) (hg : t.cfg = s.cfg) :
    (t.setCpu c).setFlagsUndoc f maskF53 =
      { t with
        cpu := { c with f := s.undocByte f }, clock := s.clock, drawNo := s.drawNo + 1 } := by
  rw [State.undocByte, ← hk, ← hd, ← hg]
  rfl

theorem State.undocByte_bits (s : State) (f : Flags) :
    FlagBits (s.undocByte f) f.s f.z f.h f.pv f.n f.c :=
  drawnByte_bits f _ _ (undocMask_f53 _)

theorem State.undocByte_undoc {s : State} (h : s.cfg.undocFlags = .formula) (f : Flags) :
    Undoc53 (s.undocByte f) f.f5 f.f3 := by
  rw [State.undocByte, drawnByte_formula h]
  exact f.toByte_undoc

/-- The end of an iteration that repeats while `p` (R265). -/
theorem State.repeatIf_eq (s : State) {again : Bool} {p : Prop} [Decidable p]
    (h : again = true ↔ p) :
    s.repeatIf again =
      { s with
        cpu := { s.cpu with pc := if p then s.cpu.pc - 2 else s.cpu.pc }
        clock := if p then s.clock + 21 else s.clock + 16 } := by
  by_cases hp : p
  · rw [h.2 hp, if_pos hp, if_pos hp]
    rfl
  · rw [Bool.eq_false_iff.2 (mt h.1 hp), if_neg hp, if_neg hp]
    rfl

variable {s : State} {i : Instr} {step : Word}

/-! ### Block transfer -/

/-- F after an iteration of a block transfer. -/
def State.transferF (s : State) : Byte :=
  s.undocByte (ldiFlags s.flags (s.cpu.a + s.readByte s.cpu.hl) (s.cpu.bc - 1))

/-- The state after an iteration of a block transfer, with PC and the clock left open. -/
def State.transferred (s : State) (step pc : Word) (clock : Nat) : State :=
  { (s.afterRead s.cpu.hl).memWrite s.cpu.de (s.readByte s.cpu.hl) with
    cpu := { (((s.cpu.setHL (s.cpu.hl + step)).setDE (s.cpu.de + step)).setBC (s.cpu.bc - 1)) with
      f := s.transferF, pc := pc }
    clock := clock
    drawNo := s.drawNo + 1 }

/-- The body of R266 and R268 moves neither PC nor the clock. -/
theorem State.ldBody_eq (s : State) (step : Word) :
    s.ldBody step = s.transferred step s.cpu.pc s.clock := by
  have cpu : ((s.afterRead s.hl).memWrite s.de (s.readByte s.hl)).cpu = s.cpu := by simp
  rw [State.ldBody, cpu, s.setCpu_setFlagsUndoc _ _ (by simp) (by simp) (by simp)]
  rfl

theorem State.transferred_bc (s : State) (step pc : Word) (n : Nat) :
    (s.transferred step pc n).bc = s.cpu.bc - 1 := s.cpu.bc_setBC (s.cpu.bc - 1)

/-- A block transfer stores to DE alone. -/
theorem Runs.transferred {pc : Word} {n : Nat} (h : exec i s = .next (s.transferred step pc n)) :
    Runs i s (s.transferred step pc n) [s.cpu.de] := by
  refine ⟨h, .memWrite s.cpu.de (s.readByte s.cpu.hl) (s.afterRead_mem s.cpu.hl) ?romSize rfl⟩
  case romSize => simp [State.transferred]

/-- LDI and LDD (R266, R268). -/
theorem Runs.of_ldBody (h : exec i s = .next ((s.ldBody step).tick 16)) :
    Runs i s (s.transferred step s.cpu.pc (s.clock + 16)) [s.cpu.de] := by
  rw [State.ldBody_eq] at h
  exact .transferred h

/-- LDIR and LDDR (R267, R269). -/
theorem Runs.of_ldBody_repeat
    (h : exec i s = .next ((s.ldBody step).repeatIf ((s.ldBody step).bc != 0))) :
    Runs i s
      (s.transferred step (if s.cpu.bc - 1 = 0 then s.cpu.pc else s.cpu.pc - 2)
        (if s.cpu.bc - 1 = 0 then s.clock + 16 else s.clock + 21)) [s.cpu.de] := by
  rw [State.ldBody_eq, State.transferred_bc, State.repeatIf_eq _ bne_iff_ne, ite_not, ite_not] at h
  exact .transferred h

/-- Settles O19: the four forms leave the state `transferred`, and the flags are those of `ldiFlags`
with F5 and F3 drawn or not. -/
theorem blockTransfer : Obligations.BlockTransfer := fun s =>
  ⟨s.transferF, s.drawNo + 1, s.undocByte_bits _, fun h => State.undocByte_undoc h _,
    .of_ldBody rfl, .of_ldBody_repeat rfl, .of_ldBody rfl, .of_ldBody_repeat rfl⟩

/-! ### Block search -/

/-- F after an iteration of a block search. -/
def State.searchF (s : State) : Byte :=
  s.undocByte (cpiFlags s.flags s.cpu.a (s.readByte s.cpu.hl) (s.cpu.bc - 1))

/-- The state after an iteration of a block search, with PC and the clock left open. -/
def State.searched (s : State) (step pc : Word) (clock : Nat) : State :=
  { s.afterRead s.cpu.hl with
    cpu := { ((s.cpu.setHL (s.cpu.hl + step)).setBC (s.cpu.bc - 1)) with
      f := s.searchF, pc := pc }
    clock := clock
    drawNo := s.drawNo + 1 }

/-- The body of R270 and R272 moves neither PC nor the clock. -/
theorem State.cpBody_eq (s : State) (step : Word) :
    s.cpBody step = s.searched step s.cpu.pc s.clock := by
  rw [State.cpBody, State.afterRead_cpu, s.setCpu_setFlagsUndoc _ _ (by simp) (by simp) (by simp)]
  rfl

theorem State.searched_bc (s : State) (step pc : Word) (n : Nat) :
    (s.searched step pc n).bc = s.cpu.bc - 1 := s.cpu.bc_setBC (s.cpu.bc - 1)

/-- A block search stores nothing. -/
theorem Runs.searched {pc : Word} {n : Nat} (h : exec i s = .next (s.searched step pc n)) :
    Runs i s (s.searched step pc n) [] :=
  .plain h (s.afterRead_romSize s.cpu.hl) (s.afterRead_mem s.cpu.hl)

/-- CPI and CPD (R270, R272). -/
theorem Runs.of_cpBody (h : exec i s = .next ((s.cpBody step).tick 16)) :
    Runs i s (s.searched step s.cpu.pc (s.clock + 16)) [] := by
  rw [State.cpBody_eq] at h
  exact .searched h

/-- CPIR and CPDR (R271, R273). -/
theorem Runs.of_cpBody_repeat
    (h : exec i s = .next ((s.cpBody step).repeatIf
      ((s.cpBody step).bc != 0 && s.cpu.a - s.readByte s.hl != 0))) :
    Runs i s
      (s.searched step
        (if s.cpu.bc - 1 ≠ 0 ∧ s.cpu.a - s.readByte s.cpu.hl ≠ 0 then s.cpu.pc - 2 else s.cpu.pc)
        (if s.cpu.bc - 1 ≠ 0 ∧ s.cpu.a - s.readByte s.cpu.hl ≠ 0 then s.clock + 21
          else s.clock + 16)) [] := by
  have again (w : Word) (b : Byte) : (w != 0 && b != 0) = true ↔ w ≠ 0 ∧ b ≠ 0 := by
    simp only [Bool.and_eq_true, bne_iff_ne]
  rw [State.cpBody_eq, State.searched_bc, State.repeatIf_eq _ (again _ _)] at h
  exact .searched h

/-- Z of a comparison: the bytes are the same. -/
theorem cpiFlags_z (old : Flags) (a v : Byte) (bc : Word) :
    (cpiFlags old a v bc).z = decide (a = v) :=
  decide_eq_decide.2 sub_eq_zero

/-- The half borrow lowers the number by one whose bits 1 and 3 are F5 and F3 (R270). -/
theorem sub_setWidth_ofBool (r : Byte) (b : Bool) :
    r - (BitVec.ofBool b).setWidth 8 = if b then r - 1 else r := by
  cases b
  · exact BitVec.sub_zero r
  · rfl

/-- Settles O20: the four forms leave the state `searched`, and the flags are those of `cpiFlags`
with F5 and F3 drawn or not. -/
theorem blockSearch : Obligations.BlockSearch := by
  intro s v bc r hc n
  have bits := s.undocByte_bits (cpiFlags s.flags s.cpu.a v bc)
  rw [cpiFlags_z] at bits
  have undoc (h : s.cfg.undocFlags = .formula) : Undoc53 s.searchF (n.getLsbD 1) (n.getLsbD 3) := by
    rw [show n = r - (BitVec.ofBool hc).setWidth 8 from (sub_setWidth_ofBool r hc).symm]
    exact State.undocByte_undoc h _
  exact ⟨s.searchF, s.drawNo + 1, bits, undoc,
    .of_cpBody rfl, .of_cpBody_repeat rfl, .of_cpBody rfl, .of_cpBody_repeat rfl⟩

end Sys2Proof.Machine
end

section
/-! The 8-bit arithmetic and logic group. The two-operand group (O21, O22, O23) is one operation on A
and the operand with one shape for all its forms, CP apart, which leaves A alone and may draw F5 and
F3. INC and DEC (O24) have one shape for the memory operands, and are register changes on the
halves. -/

namespace Sys2Proof.Machine

/-! ### What the two-operand group computes -/

/-- The new A and the flags of an operation on A and the operand `v` with carry `c` (R292 to
R299). -/
def AluOp.eval (op : AluOp) (a v : Byte) (c : Bool) : Byte × Flags :=
  match op with
  | .add => add8 a v false
  | .adc => add8 a v c
  | .sub => sub8 a v false
  | .sbc => sub8 a v c
  | .and => (a &&& v, logic8 (a &&& v) true)
  | .xor => (a ^^^ v, logic8 (a ^^^ v) false)
  | .or => (a ||| v, logic8 (a ||| v) false)
  | .cp => (a, { (sub8 a v false).2 with f5 := v.getLsbD 5, f3 := v.getLsbD 3 })

/-- The operation of the state on its own A, operand `v` and carry. -/
def State.evalAlu (s : State) (op : AluOp) (v : Byte) : Byte × Flags :=
  op.eval s.cpu.a v (s.cpu.f.getLsbD 0)

/-- Every operation but CP writes A and all of F exactly. -/
theorem State.alu_of_ne_cp (s : State) {op : AluOp} (h : op ≠ .cp) (v : Byte) :
    s.alu op v = (s.setReg .a (s.evalAlu op v).1).setFlags (s.evalAlu op v).2 := by
  cases op
  case cp => exact absurd rfl h
  all_goals rfl

/-- CP writes F alone, and may draw F5 and F3 (R299). -/
theorem State.alu_cp (s : State) (v : Byte) :
    s.alu .cp v = s.setFlagsUndoc (s.evalAlu .cp v).2 maskF53 := rfl

/-- PV is never drawn. -/
theorem State.alu_pv (s : State) (op : AluOp) (v : Byte) :
    (s.alu op v).cpu.f.getLsbD 2 = (s.evalAlu op v).2.pv := by
  by_cases h : op = .cp
  · obtain ⟨-, -, -, pv, -⟩ := s.undocByte_bits (s.evalAlu .cp v).2
    rw [h, State.alu_cp]
    exact pv
  · rw [s.alu_of_ne_cp h]
    exact Flags.toByte_pv _

@[simp] theorem AluSource.after_cpu (s : State) (x : AluSource) : (x.after s).cpu = s.cpu := by
  obtain ⟨k, hk⟩ := x.after_eq s
  rw [hk]

/-- PV of an addition without a carry. -/
theorem add8_false_pv (a v : Byte) :
    (add8 a v false).2.pv = true ↔ a.toInt + v.toInt < -128 ∨ 127 < a.toInt + v.toInt := by
  simpa using add8_pv a v false

/-- PV of a subtraction without a borrow. -/
theorem sub8_false_pv (a v : Byte) :
    (sub8 a v false).2.pv = true ↔ a.toInt - v.toInt < -128 ∨ 127 < a.toInt - v.toInt := by
  simpa using sub8_pv a v false

/-- Settles O23: PV of every operation is that of `Add8` or `Sub8`, which is signed overflow. -/
theorem signedOverflow : Obligations.SignedOverflow := by
  intro s t x op e hop hexec
  have pv : t.cpu.f.getLsbD 2 = (s.evalAlu op (x.value s)).2.pv := by
    rw [exec_alu] at hexec
    cases hexec
    rw [State.tick_cpu, State.alu_pv, State.evalAlu, AluSource.after_cpu, State.evalAlu]
  rw [pv]
  obtain ⟨rfl, rfl⟩ | ⟨rfl, rfl⟩ | ⟨rfl, rfl⟩ | ⟨rfl, rfl⟩ | ⟨rfl, rfl⟩ := hop
  · exact add8_false_pv ..
  · exact add8_pv ..
  · exact sub8_false_pv ..
  · exact sub8_pv ..
  · exact sub8_false_pv ..

/-! ### The shape of the two-operand group -/

/-- Every form of an operation but CP: A, F, the clock, and the keyboard if the operand is there. -/
theorem runs_alu (s : State) (x : AluSource) {op : AluOp} (h : op ≠ .cp) :
    Runs (x.instr op) s
      { x.after s with
        cpu := { s.cpu with
          a := (s.evalAlu op (x.value s)).1, f := (s.evalAlu op (x.value s)).2.toByte }
        clock := s.clock + x.cost } [] := by
  have run := exec_alu s x op
  obtain ⟨k, hk⟩ := x.after_eq s
  rw [hk, State.alu_of_ne_cp _ h] at run
  rw [hk]
  exact .plain run rfl rfl

/-- Every form of CP: F, a draw, the clock, and the keyboard if the operand is there. -/
theorem runs_cp (s : State) (x : AluSource) :
    Runs (x.instr .cp) s
      { x.after s with
        cpu := { s.cpu with f := s.undocByte (s.evalAlu .cp (x.value s)).2 }
        clock := s.clock + x.cost
        drawNo := s.drawNo + 1 } [] := by
  have run := exec_alu s x .cp
  obtain ⟨k, hk⟩ := x.after_eq s
  rw [hk, State.alu_cp] at run
  rw [hk]
  exact .plain run rfl rfl

/-! ### Addition, subtraction and compare -/

/-- C of `Sub8` is the borrow (R290). -/
theorem sub8_c (a v : Byte) (c : Bool) :
    (sub8 a v c).2.c = decide (a.toNat < v.toNat + c.toNat) :=
  decide_eq_decide.2 (by omega)

/-- `Sub8` without a borrow is the subtraction of bytes. -/
theorem sub8_false (a v : Byte) : (sub8 a v false).1 = a - v := by
  apply BitVec.eq_of_toNat_eq
  have h := sub8_toNat a v false
  rw [BitVec.toNat_sub]
  simp only [Bool.toNat_false] at h
  omega

/-- What an operation that is `Add8` with carry `c` leaves, in every form (R292, R293). -/
theorem runs_add8 (s : State) (x : AluSource) {op : AluOp} (h : op ≠ .cp) (c : Bool)
    (he : s.evalAlu op (x.value s) = add8 s.cpu.a (x.value s) c) :
    ∃ r f, Runs (x.instr op) s
        { x.after s with cpu := { s.cpu with a := r, f := f }, clock := s.clock + x.cost } [] ∧
      r.toNat = (s.cpu.a.toNat + (x.value s).toNat + c.toNat) % 256 ∧
      FlagBits f (r.getLsbD 7) (decide (r = 0))
        (decide (15 < s.cpu.a.toNat % 16 + (x.value s).toNat % 16 + c.toNat))
        (s.cpu.a.getLsbD 7 == (x.value s).getLsbD 7 && r.getLsbD 7 != s.cpu.a.getLsbD 7) false
        (decide (255 < s.cpu.a.toNat + (x.value s).toNat + c.toNat)) ∧
      Undoc53 f (r.getLsbD 5) (r.getLsbD 3) := by
  have run := runs_alu s x h
  rw [he] at run
  exact ⟨_, _, run, add8_toNat .., Flags.toByte_bits _, Flags.toByte_undoc _⟩

/-- S, Z, H, PV, N and C of `Sub8` in the flag byte `f` (R290). -/
def Sub8Bits (f a v r : Byte) (c : Nat) : Prop :=
  FlagBits f (r.getLsbD 7) (decide (r = 0)) (decide (a.toNat % 16 < v.toNat % 16 + c))
    (a.getLsbD 7 != v.getLsbD 7 && r.getLsbD 7 != a.getLsbD 7) true
    (decide (a.toNat < v.toNat + c))

/-- A flag byte with the six documented bits of `Sub8`. -/
theorem sub8Bits_of_flagBits {f a v : Byte} {c : Bool}
    (h : FlagBits f (sub8 a v c).2.s (sub8 a v c).2.z (sub8 a v c).2.h (sub8 a v c).2.pv
      (sub8 a v c).2.n (sub8 a v c).2.c) : Sub8Bits f a v (sub8 a v c).1 c.toNat := by
  rw [sub8_c] at h
  exact h

/-- What an operation that is `Sub8` with borrow `c` leaves, in every form (R294, R295). -/
theorem runs_sub8 (s : State) (x : AluSource) {op : AluOp} (h : op ≠ .cp) (c : Bool)
    (he : s.evalAlu op (x.value s) = sub8 s.cpu.a (x.value s) c) :
    ∃ r f, Runs (x.instr op) s
        { x.after s with cpu := { s.cpu with a := r, f := f }, clock := s.clock + x.cost } [] ∧
      (r.toNat : Int) = ((s.cpu.a.toNat : Int) - (x.value s).toNat - c.toNat) % 256 ∧
      Sub8Bits f s.cpu.a (x.value s) r c.toNat ∧ Undoc53 f (r.getLsbD 5) (r.getLsbD 3) := by
  have run := runs_alu s x h
  rw [he] at run
  exact ⟨_, _, run, sub8_toNat .., sub8Bits_of_flagBits (Flags.toByte_bits _),
    Flags.toByte_undoc _⟩

/-- Settles O21: ADD and ADC are `Add8`, SUB and SBC are `Sub8`, and CP is `Sub8` without its
result. -/
theorem addSubResult : Obligations.AddSubResult := by
  intro s x a v
  refine ⟨?add, ?sub, ?cp⟩
  case add =>
    rintro op c (⟨rfl, rfl⟩ | ⟨rfl, rfl⟩)
    · exact runs_add8 s x (by decide) false rfl
    · exact runs_add8 s x (by decide) _ rfl
  case sub =>
    rintro op c (⟨rfl, rfl⟩ | ⟨rfl, rfl⟩)
    · exact runs_sub8 s x (by decide) false rfl
    · exact runs_sub8 s x (by decide) _ rfl
  case cp =>
    refine ⟨_, _, runs_cp s x, ?bits, fun h => State.undocByte_undoc h _⟩
    rintro r c rfl rfl
    rw [← sub8_false]
    exact sub8Bits_of_flagBits (c := false) (s.undocByte_bits _)

/-! ### Logic -/

/-- AND, XOR and OR compute the bitwise result and the flags of `Logic` (R296 to R298). -/
theorem AluOp.eval_logic {op : AluOp} {a v r : Byte} (c : Bool)
    (h : (op = .and ∧ r = a &&& v) ∨ (op = .xor ∧ r = a ^^^ v) ∨ (op = .or ∧ r = a ||| v)) :
    op ≠ .cp ∧ op.eval a v c = (r, logic8 r (decide (op = .and))) := by
  obtain ⟨rfl, rfl⟩ | ⟨rfl, rfl⟩ | ⟨rfl, rfl⟩ := h <;> exact ⟨by decide, rfl⟩

/-- Settles O22: the three operations are one shape, with the flags of `Logic`. -/
theorem logicResult : Obligations.LogicResult := by
  intro s x op r h
  obtain ⟨hop, he⟩ := AluOp.eval_logic (s.cpu.f.getLsbD 0) h
  have run := runs_alu s x hop
  rw [State.evalAlu, he] at run
  exact ⟨_, run, Flags.toByte_bits _, Flags.toByte_undoc _⟩

/-! ### Increment and decrement -/

theorem exec_inc (s : State) (m : MOperand) :
    exec m.inc s =
      .next (((m.put s (m.value s + 1)).setFlags (incFlags s.flags (m.value s))).tick
        (m.cost 4 11 23)) := by
  rcases m with r | _ | ⟨_ | _, d⟩ <;> rfl

theorem exec_dec (s : State) (m : MOperand) :
    exec m.dec s =
      .next (((m.put s (m.value s - 1)).setFlags (decFlags s.flags (m.value s))).tick
        (m.cost 4 11 23)) := by
  rcases m with r | _ | ⟨_ | _, d⟩ <;> rfl

@[simp] theorem MOperand.put_clock (s : State) (m : MOperand) (v : Byte) :
    (m.put s v).clock = s.clock := by
  rcases m with r | _ | ⟨_ | _, d⟩ <;> simp [MOperand.put, MOperand.addr]

/-- The shape of an instruction that writes its operand back with flags: at most the operand's own
byte changes. -/
theorem Runs.of_put {s : State} {i : Instr} {m : MOperand} {v : Byte} {f : Flags} {n : Nat}
    (h : exec i s = .next (((m.put s v).setFlags f).tick n)) :
    Runs i s
      { m.put s v with cpu := { (m.put s v).cpu with f := f.toByte }, clock := s.clock + n }
      (m.stored s) := by
  refine ⟨?next, ?frame⟩
  case next => rw [h, State.tick, State.setFlags_clock, MOperand.put_clock]; rfl
  case frame => exact (m.put_sameBytes s v).congr rfl rfl (m.put_romSize s v)

/-- Settles O24: the operand is written back, or a half is changed in its register, with the flags
of `incFlags` or `decFlags`. -/
theorem incDecResult : Obligations.IncDecResult := by
  intro s m
  have inc (v : Byte) := incFlags_spec s.cpu.f v
  have dec (v : Byte) := decFlags_spec s.cpu.f v
  exact ⟨⟨_, _, .of_put (exec_inc s m), rfl, inc _⟩, ⟨_, _, .of_put (exec_dec s m), rfl, dec _⟩,
    -- the halves of IX
    ⟨_, .of_setCpu rfl, inc _⟩, ⟨_, .of_setCpu rfl, inc _⟩,
    ⟨_, .of_setCpu rfl, dec _⟩, ⟨_, .of_setCpu rfl, dec _⟩,
    -- the halves of IY
    ⟨_, .of_setCpu rfl, inc _⟩, ⟨_, .of_setCpu rfl, inc _⟩,
    ⟨_, .of_setCpu rfl, dec _⟩, ⟨_, .of_setCpu rfl, dec _⟩⟩

end Sys2Proof.Machine
end

section
/-! The general group: DAA (O25) with the decimal law (O26), NEG (O28) and the control forms (O27).
Each is a change of the registers, two of them with a draw: what is to be said is about the
numbers. -/

namespace Sys2Proof.Machine

/-! ### DAA -/

theorem runs_daa (s : State) :
    Runs .daa s
      { s with
        cpu := { s.cpu with a := (daa s.cpu.a s.flags).1, f := (daa s.cpu.a s.flags).2.toByte }
        clock := s.clock + 4 } [] :=
  .of_setCpu rfl

/-- Settles O25: A and F are those of `daa`, whose A is an arithmetic sum or difference. -/
theorem decimalAdjust : Obligations.DecimalAdjust := by
  intro s a low c n h corr
  obtain ⟨added, subtracted⟩ := daa_toNat s.cpu.a s.flags
  exact ⟨_, _, runs_daa s, added, subtracted, Flags.toByte_bits _, Flags.toByte_undoc _⟩

/-! ### The decimal law -/

/-- C after DAA as the decimal carry (R320). -/
theorem daa_c_toNat (a : Byte) (f : Flags) :
    (daa a f).2.c.toNat = if f.c = true ∨ 0x99 < a.toNat then 1 else 0 := by
  have c : (daa a f).2.c = (f.c || decide (0x99 < a.toNat)) := rfl
  simp only [c, Bool.toNat, Bool.or_eq_true, decide_eq_true_eq, cond_eq_ite]

/-- After an addition of BCD bytes DAA corrects each digit exactly when its sum with the carry into
it is past 9. -/
theorem daa_add8 {a v : Byte} (ha : Bcd a) (hv : Bcd v) (c : Bool) :
    Bcd (daa (add8 a v c).1 (add8 a v c).2).1 ∧
      bcdValue (daa (add8 a v c).1 (add8 a v c).2).1 +
          100 * (daa (add8 a v c).1 (add8 a v c).2).2.c.toNat =
        bcdValue a + bcdValue v + c.toNat := by
  obtain ⟨ha1, ha0⟩ := ha
  obtain ⟨hv1, hv0⟩ := hv
  have hc := c.toNat_le
  have sum := add8_toNat a v c
  have half : (add8 a v c).2.h = true ↔ 15 < a.toNat % 16 + v.toNat % 16 + c.toNat :=
    decide_eq_true_iff
  have whole : (add8 a v c).2.c = true ↔ 255 < a.toNat + v.toNat + c.toNat := decide_eq_true_iff
  have low : (add8 a v c).2.h = true ∨ 9 < (add8 a v c).1.toNat % 16 ↔
      9 < a.toNat % 16 + v.toNat % 16 + c.toNat := by rw [half]; omega
  have high : (add8 a v c).2.c = true ∨ 0x99 < (add8 a v c).1.toNat ↔
      0x99 < a.toNat + v.toNat + c.toNat := by rw [whole]; omega
  have result := (daa_toNat (add8 a v c).1 (add8 a v c).2).1 rfl
  have carry := daa_c_toNat (add8 a v c).1 (add8 a v c).2
  simp only [low, high] at result carry
  simp only [Bcd, bcdValue]
  split_ifs at result carry <;> omega

/-- After a subtraction of BCD bytes DAA corrects each digit exactly when it borrows. -/
theorem daa_sub8 {a v : Byte} (ha : Bcd a) (hv : Bcd v) (c : Bool) :
    Bcd (daa (sub8 a v c).1 (sub8 a v c).2).1 ∧
      bcdValue (daa (sub8 a v c).1 (sub8 a v c).2).1 + bcdValue v + c.toNat =
        bcdValue a + 100 * (daa (sub8 a v c).1 (sub8 a v c).2).2.c.toNat := by
  obtain ⟨ha1, ha0⟩ := ha
  obtain ⟨hv1, hv0⟩ := hv
  have hc := c.toNat_le
  have difference := sub8_toNat a v c
  have half : (sub8 a v c).2.h = true ↔ a.toNat % 16 < v.toNat % 16 + c.toNat :=
    decide_eq_true_iff
  have whole : (sub8 a v c).2.c = true ↔ a.toNat < v.toNat + c.toNat := by
    rw [sub8_c, decide_eq_true_iff]
  have low : (sub8 a v c).2.h = true ∨ 9 < (sub8 a v c).1.toNat % 16 ↔
      a.toNat % 16 < v.toNat % 16 + c.toNat := by rw [half]; omega
  have high : (sub8 a v c).2.c = true ∨ 0x99 < (sub8 a v c).1.toNat ↔
      a.toNat < v.toNat + c.toNat := by rw [whole]; omega
  have result := (daa_toNat (sub8 a v c).1 (sub8 a v c).2).2 rfl
  have borrow := daa_c_toNat (sub8 a v c).1 (sub8 a v c).2
  simp only [low, high] at result borrow
  simp only [Bcd, bcdValue]
  split_ifs at result borrow <;> omega

/-- F read back as flags is what was written (R33). -/
theorem Flags.ofByte_toByte (f : Flags) : Flags.ofByte f.toByte = f := by
  simp only [Flags.ofByte, Flags.toByte_s, Flags.toByte_z, Flags.toByte_f5, Flags.toByte_h,
    Flags.toByte_f3, Flags.toByte_pv, Flags.toByte_n, Flags.toByte_c]

/-- An operation other than CP on an immediate, then DAA: A and C are those of `daa` on what the
operation computes. -/
theorem exec_alu_imm_daa (s : State) {op : AluOp} (h : op ≠ .cp) (n : Byte) :
    ∃ t u, exec ((AluSource.imm n).instr op) s = .next t ∧ exec .daa t = .next u ∧
      u.cpu.a = (daa (s.evalAlu op n).1 (s.evalAlu op n).2).1 ∧
      u.cpu.f.getLsbD 0 = (daa (s.evalAlu op n).1 (s.evalAlu op n).2).2.c := by
  obtain ⟨run, -⟩ := runs_alu s (.imm n) h
  refine ⟨_, _, run, (runs_daa _).1, ?a, ?c⟩
  case a => simp only [AluSource.value, State.flags, Flags.ofByte_toByte]
  case c => simp only [AluSource.value, State.flags, Flags.ofByte_toByte, Flags.toByte_c]

/-- Settles O26: ADC is `add8` and SBC is `sub8`, and DAA makes each decimal. -/
theorem bcdArithmetic : Obligations.BcdArithmetic := by
  intro s n ha hn
  constructor
  case left =>
    obtain ⟨t, u, run, adjust, a, c⟩ := exec_alu_imm_daa s (op := .adc) (by decide) n
    refine ⟨t, u, run, adjust, ?_⟩
    rw [a, c]
    exact daa_add8 ha hn _
  case right =>
    obtain ⟨t, u, run, adjust, a, c⟩ := exec_alu_imm_daa s (op := .sbc) (by decide) n
    refine ⟨t, u, run, adjust, ?_⟩
    rw [a, c]
    exact daa_sub8 ha hn _

/-! ### NEG -/

theorem sub8_zero (a : Byte) : (sub8 0 a false).1 = -a := (sub8_false 0 a).trans (zero_sub a)

theorem sub8_zero_z (a : Byte) : (sub8 0 a false).2.z = decide (a = 0) :=
  (congrArg (decide <| · = 0) (sub8_zero a)).trans (decide_eq_decide.2 neg_eq_zero)

theorem sub8_zero_h (a : Byte) : (sub8 0 a false).2.h = decide (a.toNat % 16 ≠ 0) :=
  decide_eq_decide.2 (by simp [Nat.pos_iff_ne_zero])

/-- Only −128 has no opposite among the signed bytes. -/
theorem sub8_zero_pv (a : Byte) : (sub8 0 a false).2.pv = decide (a = 0x80) := by
  have low := a.le_toInt
  have high := a.toInt_lt
  rw [Bool.eq_iff_iff, sub8_false_pv, decide_eq_true_iff, ← BitVec.toInt_inj]
  simp only [BitVec.reduceToInt]
  omega

theorem sub8_zero_c (a : Byte) : (sub8 0 a false).2.c = decide (a ≠ 0) := by
  rw [sub8_c]
  exact decide_eq_decide.2 (by simp [Nat.pos_iff_ne_zero, BitVec.toNat_eq])

theorem runs_neg (s : State) {i : Instr} (h : i = .neg ∨ ∃ y, i = .negMirror y) :
    Runs i s
      { s with
        cpu := { s.cpu with a := (sub8 0 s.cpu.a false).1, f := (sub8 0 s.cpu.a false).2.toByte }
        clock := s.clock + 8 } [] := by
  rcases h with rfl | ⟨y, rfl⟩
  · exact .of_setCpu rfl
  · exact .of_setCpu rfl

/-- Settles O28: the instruction is a subtraction from 0, with the flags the lemmas above give. -/
theorem negate : Obligations.Negate := by
  intro s i hi
  have run := runs_neg s hi
  have bits := Flags.toByte_bits (sub8 0 s.cpu.a false).2
  have undoc := Flags.toByte_undoc (sub8 0 s.cpu.a false).2
  rw [sub8_zero_z, sub8_zero_h, sub8_zero_pv, sub8_zero_c] at bits
  rw [← sub8_zero]
  exact ⟨_, run, bits, undoc⟩

/-! ### Control -/

/-- Settles O27: all forms but NOP, CCF and SCF are changes of the registers, and these two write F
with F5 and F3 drawn or not. -/
theorem generalControl : Obligations.GeneralControl := by
  intro s y
  refine ⟨.plain rfl rfl rfl, .of_setCpu rfl, .of_setCpu rfl, .of_setCpu rfl, .of_setCpu rfl,
    .of_setCpu rfl, .of_setCpu rfl, .of_setCpu rfl, .of_setCpu rfl, .of_setCpu rfl,
    ⟨_, .of_setCpu rfl, ?cplBits, ?cplUndoc⟩, ⟨_, _, .plain rfl rfl rfl, ?ccfBits, ?ccfUndoc⟩,
    ⟨_, _, .plain rfl rfl rfl, ?scfBits, ?scfUndoc⟩⟩
  case cplBits => exact Flags.toByte_bits (cplFlags s.flags (~~~s.cpu.a))
  case cplUndoc => exact Flags.toByte_undoc _
  case ccfBits => exact s.undocByte_bits (ccfFlags s.flags s.cpu.a)
  case ccfUndoc => exact fun h => State.undocByte_undoc h _
  case scfBits => exact s.undocByte_bits (scfFlags s.flags s.cpu.a)
  case scfUndoc => exact fun h => State.undocByte_undoc h _

end Sys2Proof.Machine
end

section
/-! The entry of an interrupt handler, and the maskable interrupt (O49). -/

namespace Sys2Proof.Machine

variable {s t : State}

/-! ### The stack of a handler -/

/-- A push is two stores and the change of SP. -/
theorem State.push_eq (s : State) (w : Word) :
    s.push w =
      ((s.memWrite (s.cpu.sp - 1) (hi w)).memWrite (s.cpu.sp - 2) (lo w)).setCpu
        { s.cpu with sp := s.cpu.sp - 2 } := by
  have setSP (t : State) (v : Word) : t.setSP v = t.setCpu { t.cpu with sp := v } := rfl
  simp only [State.push, setSP, State.setCpu_cpu, State.memWrite_setCpu]
  rfl

/-- Of the registers a push reads SP alone. -/
theorem State.push_setCpu {c : Regs} (h : c.sp = s.cpu.sp) (w : Word) :
    (s.setCpu c).push w = (s.push w).setCpu { c with sp := s.cpu.sp - 2 } := by
  simp only [State.push_eq, State.setCpu_cpu, State.memWrite_setCpu, h]
  rfl

theorem State.Holds.congr {a : Word} {v : Byte} (h : s.Holds a v) (hr : t.romSize = s.romSize)
    (hm : t.mem = s.mem) (hi : t.inited = s.inited) : t.Holds a v where
  writable := (State.writable_congr hr a).trans h.writable
  cell := by rw [hm, h.cell]
  flag := by rw [hi]; exact h.flag

/-- A word whose two bytes are in place. -/
theorem State.readWord_of_holds {a w : Word} (low : s.Holds a (lo w))
    (high : s.Holds (a + 1) (hi w)) : s.readWord a = w := by
  rw [State.readWord_of_writable _ low.writable, high.readByte, low.readByte, pair_hi_lo]

/-- After a push on a writable stack the word stands at the new SP. -/
theorem State.readWord_pushed {w : Word} (h1 : s.writable (s.cpu.sp - 1) = true)
    (h2 : s.writable (s.cpu.sp - 2) = true) (hr : t.romSize = s.romSize)
    (hm : t.mem = (s.push w).mem) (hi : t.inited = (s.push w).inited) :
    t.readWord (s.cpu.sp - 2) = w := by
  have next : s.cpu.sp - 2 + 1 = s.cpu.sp - 1 := by bv_omega
  have rom : t.romSize = (s.push w).romSize := hr.trans (s.push_romSize w).symm
  have low := (s.push_holds_low w h2).congr rom hm hi
  have high := (s.push_holds_high w h1).congr rom hm hi
  exact State.readWord_of_holds low (next ▸ high)

/-- What stands on the stack, and the frame, when `w` is pushed after the test of R520. -/
theorem State.pushed_afterHaltTest {w : Word} (hr : t.romSize = s.romSize)
    (hm : t.mem = (s.afterHaltTest.push w).mem) (hi : t.inited = (s.afterHaltTest.push w).inited) :
    (s.writable (s.cpu.sp - 1) = true → s.writable (s.cpu.sp - 2) = true →
      t.readWord (s.cpu.sp - 2) = w) ∧ SameBytes s t [s.cpu.sp - 1, s.cpu.sp - 2] := by
  have cpu := s.afterHaltTest_cpu
  have rom := s.afterHaltTest_romSize
  have mem := s.afterHaltTest_mem
  generalize s.afterHaltTest = u at cpu rom mem hm hi
  rw [← cpu]
  refine ⟨fun h1 h2 => ?word, .of_get hr fun b hb => ?cell⟩
  case word =>
    rw [← State.writable_congr rom] at h1 h2
    exact State.readWord_pushed h1 h2 (hr.trans rom.symm) hm hi
  case cell =>
    obtain ⟨same, -⟩ := SameBytes.push w (hr.trans rom.symm) hm b hb
    rw [same, mem]

/-! ### The entry of a handler (R520, R522) -/

/-- The address a handler returns to: past a HALT. -/
def State.resumePC (s : State) : Word :=
  if s.resumeAfterHalt then s.cpu.pc + 1 else s.cpu.pc

theorem State.enterHandler_eq (s : State) (vector : Word) (iff2 : Bool) :
    s.enterHandler vector iff2 =
      (s.afterHaltTest.push s.resumePC).setCpu
        { s.cpu with
          pc := vector, sp := s.cpu.sp - 2, iff1 := false, iff2 := iff2, halted := false } := by
  have cpu := s.afterHaltTest_cpu
  unfold State.enterHandler State.resumePC
  generalize s.afterHaltTest = u at cpu ⊢
  rw [← cpu]
  have pushed (back : Word) :=
    State.push_setCpu (s := u) (c := { u.cpu with pc := back, halted := false }) rfl back
  exact congrArg
    (fun t : State => t.setCpu { t.cpu with iff1 := false, iff2 := iff2, pc := vector }) (pushed _)

/-! ### The interrupt check (R531) -/

theorem Latches.nmiPending_eq_false {l : Latches} :
    l.nmiPending = false ↔ l.nmiMask &&& l.nmiLatch = 0 ∨ l.nmiSeen = true := by
  simp [Latches.nmiPending, or_iff_not_imp_left]

theorem State.irqAccepted_iff :
    s.irqAccepted = true ↔
      s.lat.irqMask &&& s.lat.irqLatch ≠ 0 ∧ s.cpu.iff1 = true ∧ s.cpu.eiShadow = false := by
  simp [State.irqAccepted, Latches.irqPending, and_assoc]

theorem State.irqAccepted_eq_false :
    s.irqAccepted = false ↔
      s.lat.irqMask &&& s.lat.irqLatch = 0 ∨ s.cpu.iff1 = false ∨ s.cpu.eiShadow = true := by
  rw [← Bool.not_eq_true, State.irqAccepted_iff]
  simp only [not_and_or, not_not, Bool.not_eq_true, Bool.not_eq_false]

section
variable (hn : s.lat.nmiPending = false)
include hn

theorem State.interruptCheck_none (hi : s.irqAccepted = false) :
    s.interruptCheck = .ok { s with cpu := { s.cpu with eiShadow := false } } := by
  simp [State.interruptCheck, hn, hi, Except.map]

/-- Only mode 1 is served (R521). -/
theorem State.interruptCheck_irqFault (hi : s.irqAccepted = true) (hm : s.cpu.im ≠ .im1) :
    s.interruptCheck = .error (s.fatal (.interruptMode s.cpu.im)) := by
  simp [State.interruptCheck, State.irqEntry, hn, hi, hm, Except.map]

theorem State.interruptCheck_irqEntry (hi : s.irqAccepted = true) (hm : s.cpu.im = .im1) :
    s.interruptCheck =
      .ok { s.afterHaltTest.push s.resumePC with
        cpu := { s.cpu with
          pc := 0x0038, sp := s.cpu.sp - 2, iff1 := false
          iff2 := if s.cfg.irqClearsIff2 then false else s.cpu.iff2, halted := false
          eiShadow := false }
        clock := s.clock + s.cfg.irqAckCycles } := by
  simp [State.interruptCheck, State.irqEntry, State.enterHandler_eq, State.tick, State.setCpu, hn,
    hi, hm, Except.map]

end

/-- Settles O49: the check splits on whether the interrupt is accepted and on the mode. -/
theorem irqEntryEffect : Obligations.IrqEntryEffect := by
  intro s hs resume u saved
  have hn : s.lat.nmiPending = false := Latches.nmiPending_eq_false.2 hs
  refine ⟨fun h => ?none, fun hp h1 he hm => ?fault, fun hp h1 he hm => ?entry⟩
  case none => exact State.interruptCheck_none hn (State.irqAccepted_eq_false.2 h)
  case fault =>
    exact State.interruptCheck_irqFault hn (State.irqAccepted_iff.2 ⟨hp, h1, he⟩) hm
  case entry =>
    have check := State.interruptCheck_irqEntry hn (State.irqAccepted_iff.2 ⟨hp, h1, he⟩) hm
    exact ⟨_, check, rfl, State.pushed_afterHaltTest (by simp) rfl rfl⟩

end Sys2Proof.Machine
end

section
/-! The 16-bit arithmetic group (O29). ADD, ADC and SBC change the registers and write F with F5 and
F3 drawn or not; what is to be said of each is about the numbers. INC and DEC are changes of the
registers alone. -/

namespace Sys2Proof.Machine

/-! ### The shape of ADD, ADC and SBC -/

/-- `c` replaces the registers and `f` the flags, of which F5 and F3 may be drawn (R14). -/
theorem Runs.of_setFlagsUndoc {s : State} {i : Instr} {c : Regs} {f : Flags} {n : Nat}
    (h : exec i s = .next (((s.setCpu c).setFlagsUndoc f maskF53).tick n)) :
    Runs i s
      { s with
        cpu := { c with f := s.undocByte f }, clock := s.clock + n, drawNo := s.drawNo + 1 } [] :=
  .plain h rfl rfl

/-! ### The numbers -/

theorem add16_toNat (old : Flags) (x y : Word) :
    (add16 old x y).1.toNat = (x.toNat + y.toNat) % 65536 :=
  BitVec.toNat_ofNat ..

/-- C of `SBC HL,ss` is the borrow (R352). -/
theorem sbc16_c (x y : Word) (c : Bool) :
    (sbc16 x y c).2.c = decide (x.toNat < y.toNat + c.toNat) :=
  decide_eq_decide.2 (by omega)

theorem add16_spec (s : State) (x y : Word) :
    Add16 s x y (add16 s.flags x y).1 (s.undocByte (add16 s.flags x y).2) :=
  ⟨add16_toNat .., s.undocByte_bits _, fun h => State.undocByte_undoc h _⟩

theorem adc16_spec (s : State) (x y : Word) :
    Adc16 s x y (adc16 x y (s.cpu.f.getLsbD 0)).1
      (s.undocByte (adc16 x y (s.cpu.f.getLsbD 0)).2) := by
  have bits := s.undocByte_bits (adc16 x y (s.cpu.f.getLsbD 0)).2
  rw [adc16_pv] at bits
  exact ⟨adc16_toNat .., bits, fun h => State.undocByte_undoc h _⟩

theorem sbc16_spec (s : State) (x y : Word) :
    Sbc16 s x y (sbc16 x y (s.cpu.f.getLsbD 0)).1
      (s.undocByte (sbc16 x y (s.cpu.f.getLsbD 0)).2) := by
  have bits := s.undocByte_bits (sbc16 x y (s.cpu.f.getLsbD 0)).2
  rw [sbc16_pv, sbc16_c] at bits
  exact ⟨sbc16_toNat .., bits, fun h => State.undocByte_undoc h _⟩

/-! ### The instructions -/

/-- `ADD IX,pp` and `ADD IY,rr` (R353). -/
theorem runs_addIdx {s : State} {i : Instr} (x : Idx) (q : IdxPair)
    (h : exec i s = .next ((s.addIdx x q).tick 15)) :
    ∃ r f k, Runs i s
        { s with
          cpu := { s.cpu.setIdx x r with f := f }, clock := s.clock + 15, drawNo := k } [] ∧
      Add16 s (s.cpu.getIdx x) (s.cpu.getIdxPair x q) r f :=
  ⟨_, _, _, .of_setFlagsUndoc h, add16_spec ..⟩

/-- Settles O29: ADD, ADC and SBC write the flags of `add16`, `adc16` and `sbc16`, and INC and DEC
change one 16-bit register alone. -/
theorem wordArithmetic : Obligations.WordArithmetic := by
  intro s p q
  refine ⟨⟨_, _, _, .of_setFlagsUndoc rfl, ?addHL⟩, ⟨_, _, _, .of_setFlagsUndoc rfl, ?adcHL⟩,
    ⟨_, _, _, .of_setFlagsUndoc rfl, ?sbcHL⟩, .of_setCpu rfl, .of_setCpu rfl,
    runs_addIdx .ix q rfl, .of_setCpu rfl, .of_setCpu rfl,
    runs_addIdx .iy q rfl, .of_setCpu rfl, .of_setCpu rfl⟩
  case addHL => exact add16_spec s s.cpu.hl (s.cpu.getPair p)
  case adcHL => exact adc16_spec s s.cpu.hl (s.cpu.getPair p)
  case sbcHL => exact sbc16_spec s s.cpu.hl (s.cpu.getPair p)

end Sys2Proof.Machine
end

section
/-! The rotates and shifts. The accumulator rotates are register changes with the flags of
`rotAFlags`. The digit rotates (O30) and the copying forms (O31) read a byte and store one in its
place, and the other CB forms write their operand back: each shape is said once. -/

namespace Sys2Proof.Machine

variable {s : State} {i : Instr} {n : Nat}

/-! ### The shapes -/

/-- The shape of an instruction that reads the byte at `a` and stores `v` in its place: `f` is what
becomes of the registers. -/
theorem Runs.of_readModifyWrite {a : Word} {v : Byte} (f : Regs → Regs)
    (h : exec i s = .next
      ((((s.afterRead a).memWrite a v).setCpu (f ((s.afterRead a).memWrite a v).cpu)).tick n)) :
    Runs i s { (s.afterRead a).memWrite a v with cpu := f s.cpu, clock := s.clock + n } [a] := by
  refine ⟨?next, ?frame⟩
  case next =>
    rw [h, State.setCpu_tick, State.memWrite_cpu, State.afterRead_cpu, State.memWrite_clock,
      State.afterRead_clock]
  case frame => exact .memWrite a v (s.afterRead_mem a) (by simp) rfl

/-- What an accumulator rotate leaves when `r` is the rotated A (R370 to R373). -/
theorem runs_rotA (op : RotOp) {r : Nat} (h : exec i s = .next ((s.rotA op).tick 4))
    (hr : (rot op s.cpu.a (s.cpu.f.getLsbD 0)).1.toNat = r) :
    ∃ w f, Runs i s { s with cpu := { s.cpu with a := w, f := f }, clock := s.clock + 4 } [] ∧
      w.toNat = r ∧
      FlagBits f (s.cpu.f.getLsbD 7) (s.cpu.f.getLsbD 6) false (s.cpu.f.getLsbD 2) false
        (rot op s.cpu.a (s.cpu.f.getLsbD 0)).2 ∧
      Undoc53 f (w.getLsbD 5) (w.getLsbD 3) :=
  ⟨_, _, .of_setCpu h, hr, Flags.toByte_bits _, Flags.toByte_undoc _⟩

/-- What RLD and RRD leave when they store `b` and load A with `w` (R384, R385). -/
theorem runs_rotDigits {b w : Byte} {m r : Nat} (h : exec i s = .next ((s.rotDigits b w).tick 18))
    (hm : b.toNat = m) (hr : w.toNat = r) :
    ∃ b w f, Runs i s
        { (s.afterRead s.cpu.hl).memWrite s.cpu.hl b with
          cpu := { s.cpu with a := w, f := f }, clock := s.clock + 18 } [s.cpu.hl] ∧
      b.toNat = m ∧ w.toNat = r ∧
      FlagBits f (w.getLsbD 7) (decide (w = 0)) false (parity w) false (s.cpu.f.getLsbD 0) ∧
      Undoc53 f (w.getLsbD 5) (w.getLsbD 3) :=
  ⟨b, w, _, .of_readModifyWrite (fun c => { c with a := w, f := (inFlags s.flags w).toByte }) h,
    hm, hr, Flags.toByte_bits _, Flags.toByte_undoc _⟩

/-! ### The accumulator and digit rotates -/

/-- Two digits in a byte, by their numbers. -/
theorem digits_toNat_of_eq {p q : BitVec 4} {x y : Nat} (hp : p.toNat = x) (hq : q.toNat = y) :
    (p ++ q : Byte).toNat = 16 * x + y := by
  rw [digits_toNat, hp, hq]

/-- Settles O30: each accumulator rotate is a left or right shift of A, and the digit rotates pair
the digits of A and of the byte at HL. -/
theorem accumulatorRotates : Obligations.AccumulatorRotates := by
  intro s v a c top bot
  refine ⟨?accumulator, ?digits⟩
  case accumulator =>
    rintro i r out (⟨rfl, rfl, rfl⟩ | ⟨rfl, rfl, rfl⟩ | ⟨rfl, rfl, rfl⟩ | ⟨rfl, rfl, rfl⟩)
    · exact runs_rotA .rlc rfl (shiftLeft_toNat ..)
    · exact runs_rotA .rl rfl (shiftLeft_toNat ..)
    · exact runs_rotA .rrc rfl (shiftRight_toNat ..)
    · exact runs_rotA .rr rfl (shiftRight_toNat ..)
  case digits =>
    rintro i m r (⟨rfl, rfl, rfl⟩ | ⟨rfl, rfl, rfl⟩)
    · exact runs_rotDigits rfl (digits_toNat_of_eq (digitLow_toNat _) (digitLow_toNat _))
        (digits_toNat_of_eq (digitHigh_toNat _) (digitHigh_toNat _))
    · exact runs_rotDigits rfl (digits_toNat_of_eq (digitLow_toNat _) (digitHigh_toNat _))
        (digits_toNat_of_eq (digitHigh_toNat _) (digitLow_toNat _))

/-! ### The CB group -/

/-- Every form that is not copying writes the rotated operand back (R374, R375). -/
theorem exec_rot (s : State) (m : MOperand) (op : RotOp) :
    exec (m.rot op) s =
      .next (((m.put s (rot op (m.value s) (s.cpu.f.getLsbD 0)).1).setFlags
        (rotFlags (rot op (m.value s) (s.cpu.f.getLsbD 0)).1
          (rot op (m.value s) (s.cpu.f.getLsbD 0)).2)).tick (m.cost 8 15 23)) := by
  rcases m with r | _ | ⟨_ | _, d⟩ <;> cases op <;> rfl

/-- The flags of R375, bit by bit. -/
theorem rotFlags_spec (w : Byte) (out : Bool) : RotFlags (rotFlags w out).toByte w out :=
  ⟨Flags.toByte_bits _, Flags.toByte_undoc _⟩

/-- What a copying form leaves: the result at `a` and in `r` (R386). -/
theorem runs_rotAtCopy {op : RotOp} {a : Word} {r : Reg8}
    (h : exec i s = .next ((s.rotAtCopy op a r).tick 23)) :
    ∃ w f out, Runs i s
        { (s.afterRead a).memWrite a w with
          cpu := { s.cpu.set r w with f := f }, clock := s.clock + 23 } [a] ∧
      Rotated op (s.readByte a) (s.cpu.f.getLsbD 0) w out ∧ RotFlags f w out := by
  have spec := rot_spec op (s.readByte a) (s.cpu.f.getLsbD 0)
  unfold State.rotAtCopy at h
  generalize rot op (s.readByte a) (s.cpu.f.getLsbD 0) = w at h spec
  exact ⟨w.1, _, w.2,
    .of_readModifyWrite (fun c => { c.set r w.1 with f := (rotFlags w.1 w.2).toByte }) h,
    spec, rotFlags_spec ..⟩

/-- Settles O31: every form computes `rot`, whose table is `rot_spec`, and writes it back to its
operand, the copying forms to a register too. -/
theorem rotateResult : Obligations.RotateResult := by
  intro s op
  refine ⟨fun m => ?operand, fun d r => runs_rotAtCopy rfl, fun d r => runs_rotAtCopy rfl⟩
  case operand =>
    exact ⟨_, _, _, _, .of_put (exec_rot s m op), rfl, rot_spec .., rotFlags_spec ..⟩

end Sys2Proof.Machine
end

section
/-! The bit group. SET and RES write their operand back with one bit changed (O33). BIT writes F
alone, with the undocumented bits drawn or not: what the bits outside the mask are is said once for
every mask (O32). -/

namespace Sys2Proof.Machine

variable {s : State} {i : Instr} {n : Nat}

/-! ### SET and RES -/

/-- The shape of an instruction that writes its operand back and changes no flag. -/
theorem Runs.of_put_tick {m : MOperand} {v : Byte} (h : exec i s = .next ((m.put s v).tick n)) :
    Runs i s { m.put s v with clock := s.clock + n } (m.stored s) := by
  refine ⟨?next, ?frame⟩
  case next => rw [h, State.tick, MOperand.put_clock]
  case frame => exact (m.put_sameBytes s v).congr rfl rfl (m.put_romSize s v)

/-- The shape of a copying form: the result of `g` at `a` and in `r`. -/
theorem Runs.of_modifyAtCopy {a : Word} {r : Reg8} {g : Byte → Byte}
    (h : exec i s = .next ((s.modifyAtCopy a r g).tick n)) :
    Runs i s
      { (s.afterRead a).memWrite a (g (s.readByte a)) with
        cpu := s.cpu.set r (g (s.readByte a)), clock := s.clock + n } [a] :=
  .of_readModifyWrite (fun c => c.set r (g (s.readByte a))) h

theorem exec_set (s : State) (m : MOperand) (b : Fin 8) :
    exec (m.set b) s = .next ((m.put s (setBit (m.value s) b)).tick (m.cost 8 15 23)) := by
  rcases m with r | _ | ⟨_ | _, d⟩ <;> rfl

theorem exec_res (s : State) (m : MOperand) (b : Fin 8) :
    exec (m.res b) s = .next ((m.put s (resetBit (m.value s) b)).tick (m.cost 8 15 23)) := by
  rcases m with r | _ | ⟨_ | _, d⟩ <;> rfl

/-- Settles O33: every form writes `setBit` or `resetBit` of its operand back, the copying forms to
a register too. -/
theorem bitSetReset : Obligations.BitSetReset := by
  intro s b
  have set_bits (v : Byte) := setBit_getLsbD v b
  have res_bits (v : Byte) := resetBit_getLsbD v b
  refine ⟨fun m => ?operand, fun d r => ?copyIX, fun d r => ?copyIY⟩
  case operand =>
    exact ⟨⟨_, .of_put_tick (exec_set s m b), set_bits _⟩,
      ⟨_, .of_put_tick (exec_res s m b), res_bits _⟩⟩
  case copyIX =>
    exact ⟨⟨_, .of_modifyAtCopy rfl, set_bits _⟩, ⟨_, .of_modifyAtCopy rfl, res_bits _⟩⟩
  case copyIY =>
    exact ⟨⟨_, .of_modifyAtCopy rfl, set_bits _⟩, ⟨_, .of_modifyAtCopy rfl, res_bits _⟩⟩

/-! ### The flags of BIT -/

/-- A mask that spares Z, H, N and C, and PV and S too under formula. -/
structure SparesBitFlags (u : UndocFlags) (m : Byte) : Prop where
  z : m.getLsbD 6 = false
  h : m.getLsbD 4 = false
  n : m.getLsbD 1 = false
  c : m.getLsbD 0 = false
  pv : u = .formula → m.getLsbD 2 = false
  s : u = .formula → m.getLsbD 7 = false

/-- The mask of `BIT b,r` and `BIT b,(XY+d)` (R400, R401). -/
theorem sparesBitFlags_undocMask (u : UndocFlags) : SparesBitFlags u (undocMask u maskBit) := by
  cases u <;> constructor <;> decide

/-- The mask of `BIT b,(HL)`, where F5 and F3 are drawn under both policies (R402). -/
theorem sparesBitFlags_f53 (u : UndocFlags) :
    SparesBitFlags u (maskF53 ||| undocMask u (maskBit &&& ~~~maskF53)) := by
  cases u <;> constructor <;> decide

/-- The bits of F that BIT does not draw are those of `bitFlags`. -/
theorem bitFlags_drawnByte {m : Byte} (hm : SparesBitFlags s.cfg.undocFlags m) (b : Fin 8)
    (v d : Byte) (f5 f3 : Bool) :
    BitFlags s (drawnByte (bitFlags s.flags b (v.getLsbD b) f5 f3) d m) b v := by
  have spared {k : Nat} (hk : k < 8) (h : m.getLsbD k = false) :=
    drawnByte_exact (bitFlags s.flags b (v.getLsbD b) f5 f3) d m hk h
  refine ⟨?z, ?h, ?n, ?c, fun hf => ⟨?pv, ?s⟩⟩
  case z => exact (spared (by decide) hm.z).trans (Flags.toByte_z _)
  case h => exact (spared (by decide) hm.h).trans (Flags.toByte_h _)
  case n => exact (spared (by decide) hm.n).trans (Flags.toByte_n _)
  case c => exact (spared (by decide) hm.c).trans (Flags.toByte_c _)
  case pv => exact (spared (by decide) (hm.pv hf)).trans (Flags.toByte_pv _)
  case s => exact (spared (by decide) (hm.s hf)).trans (Flags.toByte_s _)

/-- F after a BIT that draws S, F5, F3 and PV or none of them. -/
def State.bitF (s : State) (b : Fin 8) (v : Byte) (f5 f3 : Bool) : Byte :=
  drawnByte (bitFlags s.flags b (v.getLsbD b) f5 f3) (Config.draw s.drawNo)
    (undocMask s.cfg.undocFlags maskBit)

theorem State.bitF_bits (s : State) (b : Fin 8) (v : Byte) (f5 f3 : Bool) :
    BitFlags s (s.bitF b v f5 f3) b v :=
  bitFlags_drawnByte (sparesBitFlags_undocMask _) b v _ f5 f3

theorem State.bitF_undoc (h : s.cfg.undocFlags = .formula) (b : Fin 8) (v : Byte) (f5 f3 : Bool) :
    Undoc53 (s.bitF b v f5 f3) f5 f3 := by
  rw [State.bitF, drawnByte_formula h]
  exact Flags.toByte_undoc _

/-! ### BIT -/

/-- The shape of an instruction that reads the byte at `a` and writes F alone, some bits drawn. -/
theorem Runs.of_afterRead_setFlagsDraw {a : Word} {f : Flags} {m : Byte}
    (h : exec i s = .next (((s.afterRead a).setFlagsDraw f m).tick n)) :
    Runs i s
      { s.afterRead a with
        cpu := { s.cpu with f := drawnByte f (Config.draw s.drawNo) m }
        clock := s.clock + n
        drawNo := s.drawNo + 1 } [] := by
  rw [State.afterRead_eq] at h ⊢
  exact .plain h rfl rfl

/-- Every spelling of `BIT b,(XY+d)` (R401, R405). -/
theorem runs_bitAtIdx {b : Fin 8} {x : Idx} {d : Byte}
    (h : exec i s = .next ((s.bitAtIdx b x d).tick 20)) :
    ∃ f k, Runs i s
        { s.afterRead (s.ea x d) with
          cpu := { s.cpu with f := f }, clock := s.clock + 20, drawNo := k } [] ∧
      BitFlags s f b (s.readByte (s.ea x d)) ∧
      (s.cfg.undocFlags = .formula →
        Undoc53 f ((s.ea x d).getLsbD 13) ((s.ea x d).getLsbD 11)) := by
  rw [State.bitAtIdx, State.setFlagsUndoc, State.afterRead_cfg] at h
  exact ⟨_, _, .of_afterRead_setFlagsDraw h, s.bitF_bits .., fun hf => State.bitF_undoc hf ..⟩

/-- Settles O32: every form writes the flags of `bitFlags`, with the bits of its mask drawn. -/
theorem bitTests : Obligations.BitTests := by
  intro s b r d
  refine ⟨?reg, ?atHL, ?atIX, ?atIY⟩
  case reg =>
    exact ⟨s.bitF b (s.cpu.get r) _ _, s.drawNo + 1, .plain rfl rfl rfl, s.bitF_bits ..,
      fun hf => State.bitF_undoc hf ..⟩
  case atHL =>
    exact ⟨_, _, .of_afterRead_setFlagsDraw rfl, bitFlags_drawnByte (sparesBitFlags_f53 _) ..⟩
  case atIX => rintro i (rfl | ⟨r', rfl⟩) <;> exact runs_bitAtIdx (x := .ix) rfl
  case atIY => rintro i (rfl | ⟨r', rfl⟩) <;> exact runs_bitAtIdx (x := .iy) rfl

end Sys2Proof.Machine
end

section
/-! The jumps (O34), and the calls, returns and restarts (O35). A jump is a change of the registers;
a call is a push and a return is a pop, each with a change of PC; a conditional form is one of these
or no more than its cycles. -/

namespace Sys2Proof.Machine

variable {s : State} {i : Instr} {n : Nat}

/-- A conditional form whose condition holds does what its first branch says, and otherwise its
second (R421). -/
theorem exec_next_of_cond {b : Bool} {t u : State} (h : exec i s = .next (if b then t else u)) :
    (b = true → exec i s = .next t) ∧ (b = false → exec i s = .next u) :=
  ⟨fun hb => by rw [h, if_pos hb], fun hb => by rw [h, if_neg (Bool.eq_false_iff.1 hb)]⟩

/-- An instruction that only takes its time. -/
theorem Runs.of_tick (h : exec i s = .next (s.tick n)) : Runs i s { s with clock := s.clock + n } [] :=
  .plain h rfl rfl

/-! ### Jumps -/

/-- `DJNZ` (R427): the two branches differ in PC and the clock. -/
theorem runs_djnzE (s : State) (e : Byte) :
    Runs (.djnzE e) s
      { s with
        cpu := { s.cpu with
          b := s.cpu.b - 1
          pc := if s.cpu.b = 1 then s.cpu.pc else s.cpu.pc + sext16 e }
        clock := if s.cpu.b = 1 then s.clock + 8 else s.clock + 13 } [] := by
  have last : (s.setReg .b (s.cpu.b - 1)).cpu.b = 0 ↔ s.cpu.b = 1 := sub_eq_zero
  refine .plain ?next rfl rfl
  case next =>
    change execDjnzE e s = _
    by_cases h : s.cpu.b = 1
    · rw [execDjnzE, if_pos (last.2 h), if_pos h, if_pos h]
      rfl
    · rw [execDjnzE, if_neg (mt last.1 h), if_neg h, if_neg h]
      rfl

/-- Settles O34: every jump changes the registers, the conditional ones when the condition that the
statement writes out from F holds. -/
theorem jumps : Obligations.Jumps := by
  intro s cc jcc nn e f holds jholds goes
  have cond : holds ↔ condHolds cc f = true := by cases cc <;> simp [holds, condHolds]
  have jcond : jholds ↔ jcondHolds jcc f = true := by cases jcc <;> simp [jholds, jcondHolds]
  obtain ⟨jp, noJp⟩ := exec_next_of_cond (s := s) (i := .jpCCNN cc nn) rfl
  obtain ⟨jr, noJr⟩ := exec_next_of_cond (s := s) (i := .jrJCCE jcc e) rfl
  rw [cond, jcond, Bool.not_eq_true, Bool.not_eq_true]
  exact ⟨.of_setCpu rfl, fun h => .of_setCpu (jp h), fun h => .of_tick (noJp h), .of_setCpu rfl,
    fun h => .of_setCpu (jr h), fun h => .of_tick (noJr h), .of_setCpu rfl, .of_setCpu rfl,
    .of_setCpu rfl, runs_djnzE s e⟩

/-! ### Calls and returns -/

/-- The shape of a call: PC is pushed and replaced (R428). -/
theorem Runs.of_call {w : Word} (h : exec i s = .next ((s.call w).tick n)) :
    Runs i s
      { s.push s.cpu.pc with
        cpu := { s.cpu with sp := s.cpu.sp - 2, pc := w }, clock := s.clock + n }
      [s.cpu.sp - 1, s.cpu.sp - 2] := by
  refine ⟨?next, .push s.cpu.pc (s.push_romSize _) rfl⟩
  case next => simp [h, State.call, State.setPC, State.tick]

/-- Settles O35: every form is a call, a pop with a change of PC and perhaps IFF1, or no more than
its cycles. -/
theorem callsReturns : Obligations.CallsReturns := by
  intro s cc nn t y calls stored returns
  obtain ⟨call, noCall⟩ := exec_next_of_cond (s := s) (i := .callCCNN cc nn) rfl
  obtain ⟨ret, noRet⟩ := exec_next_of_cond (s := s) (i := .retCC cc) rfl
  let popPC (c : Regs) : Regs := { c with pc := s.popWord }
  let leave (c : Regs) : Regs := { c with pc := s.popWord, iff1 := c.iff2 }
  exact ⟨.of_call rfl, fun h => .of_call (call h), fun h => .of_tick (noCall h), .of_call rfl,
    .of_pop popPC rfl, fun h => .of_pop popPC (ret h), fun h => .of_tick (noRet h),
    .of_pop leave rfl, .of_pop leave rfl, .of_pop leave rfl⟩

end Sys2Proof.Machine
end

section
/-! The input and output group: the single forms (O38, O39) are one port access with a change of the
registers; the block forms (O40, O41) are one port access, a step of HL and B, and flags that may be
drawn, and what they leave is said once for both directions. -/

namespace Sys2Proof.Machine

variable {s u : State} {i : Instr} {n : Nat} {port : Word} {v : Byte}

/-! ### The single forms -/

/-- A fault of the port access is the instruction's (R500). -/
theorem finish_map_of_error {α : Type} {x : Except Fault α} {g : α → State} {f : Fault}
    (h : x = .error f) : finish (x.map g) = .fault f := by
  rw [h]
  rfl

/-- The shape of an input: `f` is what becomes of the registers (R460 to R462). -/
theorem Runs.of_ioRead (f : Byte → Regs → Regs) (hr : s.ioRead port = .ok (v, u))
    (h : exec i s = finish ((s.ioRead port).map fun x => (x.2.setCpu (f x.1 x.2.cpu)).tick n)) :
    Runs i s { u with cpu := f v s.cpu, clock := s.clock + n } [] := by
  have dev := ioRead_devices hr
  refine .plain ?next dev.romSize dev.mem
  case next => rw [h, finish_map_of_ok hr rfl, State.setCpu_tick, dev.cpu, dev.clock]

/-- The shape of an output (R467 to R469). -/
theorem Runs.of_ioWrite (hw : s.ioWrite port v = .ok u)
    (h : exec i s = finish ((s.ioWrite port v).map fun t => t.tick n)) :
    Runs i s { u with clock := s.clock + n } [] := by
  have dev := ioWrite_devices hw
  refine .plain ?next dev.romSize dev.mem
  case next => rw [h, finish_map_of_ok hw rfl, State.tick, dev.clock]

/-- A write to a port outside the map, when unknown ports stop the machine (R110). -/
theorem ioWrite_unknown (hc : s.cfg.unknownPorts = .fatal) (hp : decodePort (lo port) = .unknown) :
    s.ioWrite port v = .error (s.fatal (.unknownPortOut (lo port))) := by
  simp only [State.ioWrite, hp, State.unknownPortWrite, hc]

/-- The low byte of BC. -/
@[simp] theorem Regs.lo_bc (c : Regs) : lo c.bc = c.c := lo_pair c.b c.c

/-- Settles O38: an admitted port is read and the byte goes to the registers; any other port stops
the form at the access. -/
theorem inputForms : Obligations.InputForms := by
  intro s n r
  refine ⟨fun h => ?inA, fun h => ?inC, fun h => ?refusedA, fun h i hi => ?refusedC⟩
  case inA =>
    obtain ⟨v, u, hr⟩ := (ioRead_admitted s _).1 h
    exact ⟨v, u, hr, ioRead_devices hr, .of_ioRead (fun v c => { c with a := v }) hr rfl⟩
  case inC =>
    obtain ⟨v, u, hr⟩ := (ioRead_admitted s _).1 h
    exact ⟨v, u, (inFlags s.flags v).toByte, hr, ioRead_devices hr,
      .of_ioRead (fun v c => { c.set r v with f := (inFlags s.flags v).toByte }) hr rfl,
      .of_ioRead (fun v c => { c with f := (inFlags s.flags v).toByte }) hr rfl,
      Flags.toByte_bits _, Flags.toByte_undoc _⟩
  case refusedA =>
    have stop := ioRead_refused h
    rw [lo_pair] at stop
    exact finish_map_of_error stop
  case refusedC =>
    have stop := ioRead_refused h
    rw [Regs.lo_bc] at stop
    rcases hi with rfl | rfl <;> exact finish_map_of_error stop

/-- Settles O39: an admitted write completes and only the clock is added; a fault of the write is
the form's. -/
theorem outputForms : Obligations.OutputForms := by
  intro s n r
  refine ⟨fun h => ?outA, fun h => ?outC, fun h => ?outC0, fun f => ⟨?_, ?_, ?_⟩,
    fun hc hp => ?unknownA, fun hc hp i hi => ?unknownC⟩
  case outA | outC | outC0 =>
    obtain ⟨u, hw⟩ := ioWrite_admitted h
    exact ⟨u, hw, ioWrite_devices hw, .of_ioWrite hw rfl⟩
  case unknownA =>
    have stop := ioWrite_unknown (port := pair s.cpu.a n) (v := s.cpu.a) hc (by rwa [lo_pair])
    rw [lo_pair] at stop
    exact finish_map_of_error stop
  case unknownC =>
    have stop (v : Byte) := ioWrite_unknown (port := s.cpu.bc) (v := v) hc (by rwa [Regs.lo_bc])
    rw [Regs.lo_bc] at stop
    rcases hi with rfl | rfl <;> exact finish_map_of_error (stop _)
  -- a fault of the write
  all_goals exact finish_map_of_error

/-! ### The block forms -/

/-- F after a block input or output of `v`, with the sum `k` of the rule (R474). -/
def State.blockIoF (s : State) (v : Byte) (k : Nat) : Byte :=
  drawnByte (blockIoFlags v (s.cpu.b - 1) k) (Config.draw s.drawNo)
    (undocMask s.cfg.undocFlags maskBlockIo)

/-- Z is exact under both policies (R474). -/
theorem State.blockIoF_z (s : State) (v : Byte) (k : Nat) :
    (s.blockIoF v k).getLsbD 6 = decide (s.cpu.b = 1) := by
  have spared : (undocMask s.cfg.undocFlags maskBlockIo).getLsbD 6 = false := by
    cases s.cfg.undocFlags <;> decide
  have z := (blockIoFlags v (s.cpu.b - 1) k).toByte_z
  rw [State.blockIoF, drawnByte_exact _ _ _ (by decide) spared, z]
  exact decide_eq_decide.2 sub_eq_zero

/-- Under `formula` the other flags are those of R474. -/
theorem State.blockIoF_undoc (h : s.cfg.undocFlags = .formula) (v : Byte) (k : Nat) :
    BlockIoFlags (s.blockIoF v k) v (s.cpu.b - 1) k := by
  rw [State.blockIoF, drawnByte_formula h]
  exact ⟨Flags.toByte_n _, Flags.toByte_h _, Flags.toByte_c _, Flags.toByte_pv _, Flags.toByte_s _,
    Flags.toByte_undoc _⟩

/-- The state after an iteration of a block input or output that takes memory and devices to those
of `u`, with PC and the clock left open. -/
def State.transferredIo (s u : State) (step : Word) (v : Byte) (k : Nat) (pc : Word) (clock : Nat) :
    State :=
  { u with
    cpu := { s.cpu.setHL (s.cpu.hl + step) with b := s.cpu.b - 1, f := s.blockIoF v k, pc := pc }
    clock := clock
    drawNo := s.drawNo + 1 }

/-- The registers and flags that both bodies write, to a state with the clock, draw counter and
policies of `s`. -/
theorem State.setCpu_blockIo {step : Word} {k : Nat} (hk : u.clock = s.clock)
    (hd : u.drawNo = s.drawNo) (hg : u.cfg = s.cfg) :
    (u.setCpu { s.cpu.setHL (s.hl + step) with b := s.cpu.b - 1 }).setFlagsUndoc
        (blockIoFlags v (s.cpu.b - 1) k) maskBlockIo =
      s.transferredIo u step v k s.cpu.pc s.clock := by
  rw [State.transferredIo, State.blockIoF, ← hk, ← hd, ← hg]
  rfl

/-- The repeating iteration goes back while B is not 0 (R464). -/
theorem State.transferredIo_repeatB (s u : State) (step : Word) (v : Byte) (k : Nat) :
    (s.transferredIo u step v k s.cpu.pc s.clock).repeatB =
      s.transferredIo u step v k (if s.cpu.b = 1 then s.cpu.pc else s.cpu.pc - 2)
        (if s.cpu.b = 1 then s.clock + 16 else s.clock + 21) := by
  have again : ((s.transferredIo u step v k s.cpu.pc s.clock).cpu.b != 0) = true ↔
      ¬s.cpu.b = 1 := bne_iff_ne.trans (not_congr sub_eq_zero)
  rw [State.repeatB, State.repeatIf_eq _ again, ite_not, ite_not]
  rfl

/-- What the two forms of a body leave when it completes (R463 to R466, R470 to R473). -/
theorem runs_blockIo {single repeated : Instr} {body : Except Fault State} {step : Word} {k : Nat}
    {l : List Word} (hb : body = .ok (s.transferredIo u step v k s.cpu.pc s.clock))
    (hs : exec single s = finish (body.map fun t => t.tick 16))
    (hr : exec repeated s = finish (body.map State.repeatB))
    (frame : SameBytes s u l) (rom : u.romSize = s.romSize) :
    ∃ f d, f.getLsbD 6 = decide (s.cpu.b = 1) ∧
      (s.cfg.undocFlags = .formula → BlockIoFlags f v (s.cpu.b - 1) k) ∧
      Runs single s
        { u with
          cpu := { s.cpu.setHL (s.cpu.hl + step) with b := s.cpu.b - 1, f := f, pc := s.cpu.pc }
          clock := s.clock + 16
          drawNo := d } l ∧
      Runs repeated s
        { u with
          cpu := { s.cpu.setHL (s.cpu.hl + step) with
            b := s.cpu.b - 1, f := f, pc := if s.cpu.b = 1 then s.cpu.pc else s.cpu.pc - 2 }
          clock := if s.cpu.b = 1 then s.clock + 16 else s.clock + 21
          drawNo := d } l := by
  refine ⟨s.blockIoF v k, s.drawNo + 1, s.blockIoF_z v k, fun h => State.blockIoF_undoc h v k,
    ⟨?single, frame.congr rfl rfl rom⟩, ⟨?repeated, frame.congr rfl rfl rom⟩⟩
  case single =>
    rw [hs, finish_map_of_ok hb rfl]
    rfl
  case repeated =>
    rw [hr, finish_map_of_ok hb (State.transferredIo_repeatB ..)]
    rfl

/-- The body of the block inputs on a port that answers `v` (R463, R465). -/
theorem State.inBody_eq {step : Word} {c : Byte} (hr : s.ioRead s.cpu.bc = .ok (v, u)) :
    s.inBody step c =
      .ok (s.transferredIo (u.memWrite s.cpu.hl v) step v (v.toNat + c.toNat) s.cpu.pc s.clock) := by
  have dev := ioRead_devices hr
  refine map_of_ok hr ?_
  rw [← State.setCpu_blockIo (by simp [dev.clock]) (by simp [dev.drawNo]) (by simp [dev.cfg])]
  simp only [State.memWrite_cpu, dev.cpu]
  rfl

/-- Settles O40: the body completes on an admitted port, and stops at the access on any other. -/
theorem blockInput : Obligations.BlockInput := by
  intro s
  refine ⟨fun h i hi => ?refused, fun h => ?admitted⟩
  case refused =>
    have stop := ioRead_refused h
    rw [Regs.lo_bc] at stop
    have body (step : Word) (c : Byte) : s.inBody step c = .error _ := congrArg (Except.map _) stop
    simp only [List.mem_cons, List.not_mem_nil, or_false] at hi
    rcases hi with rfl | rfl | rfl | rfl <;> exact finish_map_of_error (body _ _)
  case admitted =>
    obtain ⟨v, u, hr⟩ := (ioRead_admitted s _).1 h
    have dev := ioRead_devices hr
    have rom : (u.memWrite s.cpu.hl v).romSize = s.romSize := by simp [dev.romSize]
    have frame := SameBytes.memWrite (t := u.memWrite s.cpu.hl v) s.cpu.hl v dev.mem rom rfl
    exact ⟨v, u, hr, dev, runs_blockIo (State.inBody_eq hr) rfl rfl frame rom,
      runs_blockIo (State.inBody_eq hr) rfl rfl frame rom⟩

/-- The state at which a block output writes its port: B has gone down and HL has been read
(R470). -/
def State.beforeOut (s : State) : State :=
  { s.afterRead s.cpu.hl with cpu := { s.cpu with b := s.cpu.b - 1 } }

/-- The body of the block outputs is the write of that state (R470, R472). -/
theorem State.outBody_eq (s : State) (step : Word) :
    s.outBody step =
      (s.beforeOut.ioWrite (pair (s.cpu.b - 1) s.cpu.c) (s.readByte s.cpu.hl)).map fun t =>
        (t.setCpu (t.cpu.setHL (s.hl + step))).setFlagsUndoc
          (blockIoFlags (s.readByte s.cpu.hl) (s.cpu.b - 1)
            ((s.readByte s.cpu.hl).toNat + (lo (s.hl + step)).toNat)) maskBlockIo := by
  have read := s.readByte_withCpu { s.cpu with b := s.cpu.b - 1 } s.cpu.hl
  have after := s.afterRead_withCpu { s.cpu with b := s.cpu.b - 1 } s.cpu.hl
  rw [State.beforeOut, ← after, ← read]
  rfl

/-- Settles O41: the body completes on an admitted write, and a fault of the write is the form's. -/
theorem blockOutput : Obligations.BlockOutput := by
  intro s v port t forms
  have fault {f : Fault} (h : t.ioWrite port v = .error f) : ∀ i ∈ forms, exec i s = .fault f := by
    have body (step : Word) : s.outBody step = .error f :=
      (s.outBody_eq step).trans (congrArg (Except.map _) h)
    intro i hi
    simp only [forms, List.mem_cons, List.not_mem_nil, or_false] at hi
    rcases hi with rfl | rfl | rfl | rfl <;> exact finish_map_of_error (body _)
  refine ⟨fun f => fault, fun hc hp => ?unknown, fun h => ?admitted⟩
  case unknown =>
    have low : lo port = s.cpu.c := lo_pair _ _
    have stop := ioWrite_unknown (s := t) (port := port) (v := v) (by simpa [t] using hc) (low ▸ hp)
    rw [low] at stop
    exact fault stop
  case admitted =>
    have admitted : t.OutAdmitted port v := by simpa [t, State.OutAdmitted] using h
    obtain ⟨u, hw⟩ := ioWrite_admitted admitted
    have dev := ioWrite_devices hw
    have rom : u.romSize = s.romSize := by simp [dev.romSize, t]
    have frame : SameBytes s u [] := .of_mem rom (by simp [dev.mem, t]) _
    have body (step : Word) : s.outBody step = .ok (s.transferredIo u step v
        (v.toNat + (lo (s.cpu.hl + step)).toNat) s.cpu.pc s.clock) := by
      rw [s.outBody_eq step, ← State.setCpu_blockIo (by simp [dev.clock, t]) (by simp [dev.drawNo, t])
        (by simp [dev.cfg, t])]
      refine map_of_ok hw ?_
      rw [dev.cpu]
      rfl
    refine ⟨u, hw, dev, runs_blockIo (body _) rfl rfl frame rom, ?_⟩
    rw [sub_eq_add_neg s.cpu.hl]
    exact runs_blockIo (body _) rfl rfl frame rom

end Sys2Proof.Machine
end

section
/-! The step: when it runs an instruction (O6) and when not (O7). -/

namespace Sys2Proof.Machine

variable {s d : State}

/-! ### Running an instruction (R530) -/

/-- The stages after the instruction, in order (R530). -/
theorem finish_afterInstruction (t : State) :
    finish t.afterInstruction =
      match t.dispatch.interruptCheck with
      | .ok v => .next v.cassetteUpdate.timerCheck
      | .error f => .fault f := by
  unfold State.afterInstruction
  cases t.dispatch.interruptCheck <;> rfl

/-- Settles O6: a step that is due runs what the fetch gives, and the stages follow a next state. -/
theorem stepRunsDecoded : Obligations.StepRunsDecoded := by
  intro s d u i len hdue hf
  rw [step_due hdue, State.runInstruction, hf]
  dsimp only [execThen]
  cases exec i ((u.countRefresh i).setPC (u.cpu.pc + BitVec.ofNat 16 len)) with
  | next t => exact (finish_afterInstruction t).trans rfl
  | fault f => rfl
  | refused r => rfl

/-! ### Held back (R543) -/

theorem runStep_stopped (h : d.running = false) : d.runStep = .next d := by
  simp [State.runStep, h]

theorem runStep_breakpoint (h : d.running = true) (hb : d.cpu.pc ∈ d.breakpoints)
    (hs : d.skipBreak = false) :
    d.runStep = .next
      { d with running := false, outputs := d.outputs ++ [.breakpoint d.cpu.pc] } := by
  simp [State.runStep, h, hb, hs, State.emit]

/-- Settles O7: a step stops at the fault, the shutdown, the host actions, or the step proper. -/
theorem stepHeldBack : Obligations.StepHeldBack := by
  intro s
  refine ⟨fun r h => ?fault, fun h1 h2 => ?shutDown, fun h1 h2 => ⟨fun f h => ?hostFault,
    fun d h hr => ?stopped, fun d h hr hb hs => ?breakpoint⟩⟩
  case fault => simp [step, h]
  case shutDown => simp [step, h1, h2]
  case hostFault => simp [step, h1, h2, h]
  case stopped => rw [step_drained h1 h2 h, runStep_stopped hr]
  case breakpoint => rw [step_drained h1 h2 h, runStep_breakpoint hr hb hs]

end Sys2Proof.Machine
end

section
/-! The invariant at machine creation (O47). -/

namespace Sys2Proof.Machine

/-- At creation every device is at its reset value and the queue is empty (R710, R711). -/
theorem DevOk.powerOn (cfg : Config) (rom : List Byte) (ram : Memory) :
    DevOk (State.powerOn cfg rom ram) where
  lat := .cleared
  heads d := by simp [State.powerOn, State.reset, Drive.empty, Config.maxTracks]
  ready := BitVec.getLsbD_zero
  empty2 := rfl
  empty3 := rfl
  queue := .nil _

theorem State.Inv.powerOn (cfg : Config) (rom : List Byte) {ram : Memory} (h : ram.wf = true) :
    (State.powerOn cfg rom ram).Inv :=
  State.inv_iff.2 ⟨.powerOn cfg rom ram, Memory.setBytes_wf rom 0 h, rfl, .cleared⟩

/-- Settles O47: `State.reset` is the creation without a ROM and with no memory listed. -/
theorem resetInv : Obligations.ResetInv :=
  ⟨.powerOn .hardware [] (ram := []) rfl, fun cfg rom _ h => .powerOn cfg rom h⟩

end Sys2Proof.Machine
end

section
/-! The 30 Hz timer (O50). -/

namespace Sys2Proof.Machine

variable {s : State}

/-- A tick of the timer (R514). -/
theorem State.timerCheck_due (h : s.nextTimer ≤ s.clock) :
    s.timerCheck =
      { (s.raiseIrq 0x04).checkDiskMotorOff with nextTimer := s.nextTimer + 67584 } := by
  have next := (checkDiskMotorOff_devices (s.raiseIrq 0x04)).nextTimer
  rw [State.timerCheck, if_pos h]
  dsimp only
  rw [next]
  rfl

/-- The motor check does not look at the IRQ latch. -/
theorem State.motorExpired_raiseIrq (s : State) (m : Byte) :
    (s.raiseIrq m).motorExpired = s.motorExpired := rfl

/-- Settles O50: a tick before and at the period, with the motor timed out and not. -/
theorem timerTick : Obligations.TimerTick := by
  refine ⟨rfl, fun s => ⟨fun h => if_neg (by omega), fun h => ?tick⟩⟩
  case tick =>
    rw [State.timerCheck_due h]
    cases he : s.motorExpired with
    | false =>
      have running := State.checkDiskMotorOff_running (s.raiseIrq 0x04) he
      rw [running]
      refine ⟨rfl, rfl, fun _ => rfl, fun hon ht => ?_⟩
      simp [State.motorExpired, hon, ht] at he
    | true =>
      have expired := State.checkDiskMotorOff_expired (s.raiseIrq 0x04) he
      rw [expired]
      refine ⟨rfl, rfl, fun hoff => ?_, fun _ _ => ⟨rfl, rfl, rfl⟩⟩
      obtain ⟨hon, ht⟩ : s.fdc.motorOn = true ∧ s.fdc.motorTimeout ≤ s.clock := by
        simpa [State.motorExpired] using he
      rcases hoff with hoff | hlt
      · rw [hon] at hoff
        cases hoff
      · omega

end Sys2Proof.Machine
end

section
/-! The keyboard: the debounced dequeue (O53) and the scan of the rows (O54). -/

namespace Sys2Proof.Machine

/-! ### The dequeue (R693) -/

theorem State.keyDequeue_idle {s : State} (h : s.kbd.queue = [] ∨ s.clock < s.kbd.nextClock) :
    s.keyDequeue = s := by
  unfold State.keyDequeue
  split
  · rfl
  · rename_i k rest hq
    refine if_neg ?_
    rcases h with h | h
    · rw [hq] at h
      cases h
    · omega

theorem State.keyDequeue_due {s : State} {k : KeyActivity} {rest : List KeyActivity}
    (hq : s.kbd.queue = k :: rest) (h : s.kbd.nextClock ≤ s.clock) :
    s.keyDequeue = { s with kbd := { s.kbd with queue := rest }.apply k s.clock } := by
  simp only [State.keyDequeue, hq, if_pos h]

/-- The matrix after an activity: its own cell says whether the key is down, and no other changes. -/
theorem Keyboard.apply_rows (kb : Keyboard) (k : KeyActivity) (now : Nat) (i j : Fin 8) :
    ((kb.apply k now).rows[i]).getLsbD j.val =
      if i = k.row ∧ j = k.bit then k.pressed else (kb.rows[i]).getLsbD j.val := by
  have rows : (kb.apply k now).rows = kb.rows.set k.row
      (if k.pressed then setBit kb.rows[k.row] k.bit else resetBit kb.rows[k.row] k.bit) := rfl
  rw [rows]
  by_cases hi : i = k.row
  · subst hi
    simp only [Fin.getElem_fin, Vector.getElem_set_self, true_and, Fin.ext_iff]
    cases k.pressed
    · simp only [Bool.false_eq_true, if_false, resetBit_getLsbD]
      by_cases hj : j.val = k.bit.val <;> simp [hj]
    · simp only [if_true, setBit_getLsbD]
      by_cases hj : j.val = k.bit.val <;> simp [hj]
  · have : ¬k.row.val = i.val := fun e => hi (Fin.ext e.symm)
    simp [hi, this]

/-- Settles O53: what is due is applied to the matrix, and otherwise nothing happens. -/
theorem keyboardDequeue : Obligations.KeyboardDequeue := by
  refine fun s => ⟨State.keyDequeue_idle, fun k rest hq h => ?due⟩
  case due =>
    rw [State.keyDequeue_due hq h]
    exact ⟨rfl, rfl, rfl, rfl, Keyboard.apply_rows _ k s.clock⟩

/-! ### The scan (R692, R694) -/

/-- A bit of the OR of the values of `g` that `p` selects. -/
theorem getLsbD_foldl_or {ι : Type} (p : ι → Bool) (g : ι → Byte) (l : List ι) (v : Byte) (j : Nat) :
    (l.foldl (fun v i => if p i then v ||| g i else v) v).getLsbD j = true ↔
      v.getLsbD j = true ∨ ∃ i ∈ l, p i = true ∧ (g i).getLsbD j = true := by
  induction l generalizing v with
  | nil => simp
  | cons i l ih =>
    rw [List.foldl_cons, ih]
    by_cases hp : p i = true
    · simp [hp, or_assoc]
    · simp [hp]

/-- A bit of a row seen through the shift force (R694). -/
theorem ShiftForce.view_getLsbD (f : ShiftForce) (r : Byte) (j : Fin 8) :
    (f.view r).getLsbD j.val = true ↔
      match f with
      | .neutral => r.getLsbD j.val = true
      | .forceUp => r.getLsbD j.val = true ∧ 2 ≤ j.val
      | .forceDown => r.getLsbD j.val = true ∨ j.val = 0 := by
  cases f with
  | neutral => rfl
  | forceUp =>
    have mask : ∀ j : Fin 8, (~~~0x03 : Byte).getLsbD j.val = true ↔ 2 ≤ j.val := by decide
    simp only [ShiftForce.view, BitVec.getLsbD_and, Bool.and_eq_true, mask]
  | forceDown =>
    have mask : ∀ j : Fin 8, (0x01 : Byte).getLsbD j.val = true ↔ j.val = 0 := by decide
    simp only [ShiftForce.view, BitVec.getLsbD_or, Bool.or_eq_true, mask]

/-- Settles O54: a scan is the OR of the selected rows, of which row 7 goes through the force. -/
theorem keyboardScan : Obligations.KeyboardScan := by
  intro kb a j
  have scan := getLsbD_foldl_or (fun i : Fin 8 => a.getLsbD i) kb.row (List.finRange 8) 0x00 j
  refine scan.trans ?_
  have row (i : Fin 8) : (kb.row i).getLsbD j.val = true ↔
      (i ≠ 7 ∧ (kb.rows[i]).getLsbD j.val = true) ∨
        (i = 7 ∧ (kb.shiftForce.view kb.rows[i]).getLsbD j.val = true) := by
    unfold Keyboard.row
    by_cases hi : i = 7 <;> simp [hi]
  simp only [BitVec.ofNat_eq_ofNat, BitVec.getLsbD_zero, Bool.false_eq_true, false_or,
    List.mem_finRange, true_and]
  exact exists_congr fun i => and_congr_right fun _ =>
    (row i).trans (or_congr_right (and_congr_right fun _ => ShiftForce.view_getLsbD ..))

end Sys2Proof.Machine
end

section
/-! The event queue: its two operations (O52), the four actions, and the dispatch (O51). The dispatch
stops at the first entry not due, so any bound on its loop that is no less than the number of due
entries gives the same state. -/

namespace Sys2Proof.Machine

variable {s : State}

/-! ### The queue of the invariant -/

theorem State.Inv.queueOk (h : s.Inv) : QueueOk s.events s.seqNo := ⟨h.sorted, h.seqs, h.kinds⟩

/-- Settles O52: an insertion keeps a sorted queue sorted since its sequence number is new, and a
cancellation filters. -/
theorem queueOperations : Obligations.QueueOperations := by
  intro s k m d x h
  have fresh : ∀ e ∈ s.events, e.seq ≠ s.seqNo := fun e he => (h.seqs e he).ne
  refine ⟨insertEvent_perm _ _, insertEvent_sorted h.sorted fresh, rfl, List.filter_sublist,
    fun e => ?kept, rfl⟩
  case kept => simp [State.cancel]

/-! ### The actions (R566) -/

theorem State.diskDoneAction_eq (s : State) (bits : Byte) :
    s.diskDoneAction bits =
      { s with
        fdc := { s.fdc with status := s.fdc.status &&& ~~~bits }
        lat := s.lat.withNmi (s.lat.nmiLatch ||| 0x80) } := by
  rw [State.diskDoneAction, raiseNmi_withNmi]
  rfl

theorem State.lostDataAction_eq (s : State) :
    s.lostDataAction =
      { s with
        fdc := { s.fdc with status := (s.fdc.status ||| 0x04) &&& 0xFC, byteCount := 0 }
        lat := s.lat.withNmi (s.lat.nmiLatch ||| 0x80) } := by
  rw [State.lostDataAction, raiseNmi_withNmi]
  rfl

/-! ### The loop (R562) -/

/-- How many entries of the queue are due. -/
def State.dueCount (s : State) : Nat := s.events.countP (fun e => decide (e.fireClock ≤ s.clock))

/-- The state whose dispatch follows that of a due head. -/
def State.afterHead (s : State) (e : Event) (rest : List Event) : State :=
  ({ s with events := rest } : State).runAction e.action

theorem State.afterHead_clock (s : State) (e : Event) (rest : List Event) :
    (s.afterHead e rest).clock = s.clock :=
  (runAction_devices { s with events := rest } e.action).clock

/-- What an action adds is not due: the LostData watchdog fires later (R599). -/
theorem State.afterHead_dueCount (s : State) (e : Event) (rest : List Event) :
    (s.afterHead e rest).dueCount = rest.countP (fun x => decide (x.fireClock ≤ s.clock)) := by
  rw [State.dueCount, State.afterHead_clock]
  rcases runAction_events { s with events := rest } e.action with ⟨he, -⟩ | ⟨-, he, -⟩
  · exact congrArg _ he
  · have added := (insertEvent_perm
      ⟨kindDiskLostData, s.clock + Config.lostDataDelay, s.seqNo, .lostData⟩ rest).countP_eq
        (fun x => decide (x.fireClock ≤ s.clock))
    rw [State.afterHead, he, added, List.countP_cons_of_neg]
    simp [Config.lostDataDelay]

/-- A due head is one due entry. -/
theorem State.dueCount_of_due {e : Event} {rest : List Event} (he : s.events = e :: rest)
    (hd : e.fireClock ≤ s.clock) : s.dueCount = (s.afterHead e rest).dueCount + 1 := by
  rw [State.afterHead_dueCount, State.dueCount, he, List.countP_cons_of_pos (by simpa using hd)]

theorem dispatchN_due {n : Nat} {e : Event} {rest : List Event} (he : s.events = e :: rest)
    (hd : e.fireClock ≤ s.clock) :
    State.dispatchN (n + 1) s = State.dispatchN n (s.afterHead e rest) := by
  simp only [State.dispatchN, he, if_pos hd]
  rfl

/-- With no due head the loop ends. -/
theorem dispatchN_idle {n : Nat} (h : ∀ e rest, s.events = e :: rest → s.clock < e.fireClock) :
    State.dispatchN n s = s := by
  cases n with
  | zero => rfl
  | succ n =>
    unfold State.dispatchN
    split
    · rfl
    · rename_i e rest he
      exact if_neg (Nat.not_le.2 (h e rest he))

/-- Either the queue has a due head or the loop has ended. -/
theorem State.due_head_or_idle (s : State) :
    (∃ e rest, s.events = e :: rest ∧ e.fireClock ≤ s.clock) ∨
      ∀ e rest, s.events = e :: rest → s.clock < e.fireClock := by
  by_cases h : ∃ e rest, s.events = e :: rest ∧ e.fireClock ≤ s.clock
  · exact .inl h
  · exact .inr fun e rest he => Nat.not_le.1 fun hd => h ⟨e, rest, he, hd⟩

/-- Any bound that is no less than the number of due entries is as good as another. -/
theorem dispatchN_congr {n m : Nat} (hn : s.dueCount ≤ n) (hm : s.dueCount ≤ m) :
    State.dispatchN n s = State.dispatchN m s := by
  induction n generalizing s m with
  | zero =>
    have idle : ∀ e rest, s.events = e :: rest → s.clock < e.fireClock := by
      rcases s.due_head_or_idle with ⟨e, rest, he, hd⟩ | h
      · rw [State.dueCount_of_due he hd] at hn
        omega
      · exact h
    rw [dispatchN_idle idle, dispatchN_idle idle]
  | succ n ih =>
    rcases s.due_head_or_idle with ⟨e, rest, he, hd⟩ | idle
    · have count := State.dueCount_of_due he hd
      obtain ⟨m, rfl⟩ : ∃ k, m = k + 1 := ⟨m - 1, by omega⟩
      rw [dispatchN_due he hd, dispatchN_due he hd]
      exact ih (by omega) (by omega)
    · rw [dispatchN_idle idle, dispatchN_idle idle]

/-- The dispatch of a queue with a due head is that of what its action leaves. -/
theorem State.dispatch_due {e : Event} {rest : List Event} (he : s.events = e :: rest)
    (hd : e.fireClock ≤ s.clock) : s.dispatch = (s.afterHead e rest).dispatch := by
  have bound : (s.afterHead e rest).dueCount ≤ rest.length := by
    rw [State.afterHead_dueCount]
    exact List.countP_le_length
  rw [State.dispatch, he, List.length_cons, dispatchN_due he hd]
  exact dispatchN_congr bound List.countP_le_length

/-- Induction along the dispatch: `P` holds where it ends, and of a state with a due head if it
holds of what the head's action leaves. -/
theorem dispatch_induction {P : State → State → Prop}
    (idle : ∀ s : State, (∀ e rest, s.events = e :: rest → s.clock < e.fireClock) → P s s)
    (due : ∀ (s t : State) (e : Event) (rest : List Event), s.events = e :: rest →
      e.fireClock ≤ s.clock → P (s.afterHead e rest) t → P s t) (s : State) : P s s.dispatch := by
  induction hn : s.dueCount generalizing s with
  | zero =>
    rcases s.due_head_or_idle with ⟨e, rest, he, hd⟩ | h
    · rw [State.dueCount_of_due he hd] at hn
      omega
    · rw [State.dispatch, dispatchN_idle h]
      exact idle s h
  | succ n ih =>
    rcases s.due_head_or_idle with ⟨e, rest, he, hd⟩ | h
    · rw [State.dispatch_due he hd]
      exact due s _ e rest he hd (ih _ (by rw [State.dueCount_of_due he hd] at hn; omega))
    · rw [State.dispatch, dispatchN_idle h]
      exact idle s h

/-- What the dispatch from `s` to `t` removes and adds. -/
structure DispatchedEvents (s t : State) : Prop where
  later : ∀ e ∈ t.events, s.clock < e.fireClock
  kept : ∀ e ∈ s.events, s.clock < e.fireClock → e ∈ t.events
  added : ∀ e ∈ t.events, e ∈ s.events ∨ e.action = .lostData

/-- In a sorted queue whose head is not due nothing is. -/
theorem not_due_of_sorted (h : s.events.Pairwise (fun x y => x.before y = true))
    (idle : ∀ e rest, s.events = e :: rest → s.clock < e.fireClock) :
    ∀ e ∈ s.events, s.clock < e.fireClock := by
  match he : s.events with
  | [] => simp
  | x :: rest =>
    rw [he, List.pairwise_cons] at h
    obtain ⟨first, -⟩ := h
    have hx := idle x rest he
    refine List.forall_mem_cons.2 ⟨hx, fun y hy => ?_⟩
    have := (Event.before_iff x y).1 (first y hy)
    omega

/-- An action leaves the queue but for a LostData watchdog (R566, R599). -/
theorem State.mem_afterHead {e x : Event} {rest : List Event} :
    (x ∈ rest → x ∈ (s.afterHead e rest).events) ∧
      (x ∈ (s.afterHead e rest).events → x ∈ rest ∨ x.action = .lostData) := by
  rcases runAction_events { s with events := rest } e.action with ⟨he, -⟩ | ⟨-, he, -⟩
  · rw [State.afterHead, he]
    exact ⟨id, .inl⟩
  · rw [State.afterHead, he, mem_insertEvent]
    refine ⟨.inr, ?_⟩
    rintro (rfl | hx)
    · exact .inr rfl
    · exact .inl hx

theorem dispatchedEvents (s : State) :
    QueueOk s.events s.seqNo → DispatchedEvents s s.dispatch := by
  refine dispatch_induction (P := fun s t => QueueOk s.events s.seqNo → DispatchedEvents s t)
    (fun s idle h => ?idle) (fun s t e rest he hd ih h => ?due) s
  case idle => exact ⟨not_due_of_sorted h.sorted idle, fun e he _ => he, fun e he => .inl he⟩
  case due =>
    rw [he] at h
    obtain ⟨later, kept, added⟩ := ih (QueueOk.runAction (s := { s with events := rest }) h.tail _)
    rw [State.afterHead_clock] at later kept
    refine ⟨later, fun x hx hlt => ?_, fun x hx => ?_⟩
    · rw [he, List.mem_cons] at hx
      rcases hx with rfl | hx
      · omega
      · exact kept x (State.mem_afterHead.1 hx) hlt
    · rcases added x hx with hx | hx
      · rw [he, List.mem_cons]
        exact (State.mem_afterHead.2 hx).imp_left .inr
      · exact .inr hx

/-- Settles O51: one turn of the loop, the four actions, and by induction along the dispatch what it
leaves queued. -/
theorem dispatchRunsDue : Obligations.DispatchRunsDue := by
  refine ⟨fun s => ⟨fun e rest => State.dispatch_due, fun h => dispatchN_idle h⟩,
    fun s bits => ⟨s.diskDoneAction_eq bits, s.lostDataAction_eq, ⟨_, rfl, fun e => ?drq⟩, rfl⟩,
    fun s h => ?left⟩
  case drq => rw [or_comm]; exact mem_insertEvent
  case left =>
    obtain ⟨later, kept, added⟩ := dispatchedEvents s h.queueOk
    exact ⟨later, kept, added, h.dispatch.sorted, (dispatch_devices s).clock⟩

end Sys2Proof.Machine
end

section
/-! The entry of the non-maskable interrupt (O48). -/

namespace Sys2Proof.Machine

variable {s : State}

/-- The latches after an NMI is taken: the suppressor is set, and the reset-button bit clears with
NmiUpdate (R512, R520). -/
theorem Latches.nmiTaken (l : Latches) (h : l.nmiMask &&& l.nmiLatch ≠ 0) :
    (if l.nmiLatch.getLsbD 5 then
        ({ l with nmiSeen := true } : Latches).withNmi (l.nmiLatch &&& ~~~0x20)
      else { l with nmiSeen := true }) =
      { l with
        nmiLatch := l.nmiLatch &&& 0xDF
        nmiSeen := decide (l.nmiMask &&& l.nmiLatch &&& 0xDF ≠ 0) } := by
  split
  · rw [Latches.withNmi, ← BitVec.and_assoc]
    rfl
  · rename_i hb
    have clear : ∀ v : Byte, v.getLsbD 5 = false → v &&& 0xDF = v := by decide
    have same := clear l.nmiLatch (Bool.eq_false_iff.2 hb)
    rw [BitVec.and_assoc, same, decide_eq_true h]

/-- The entry is that of a handler, with the latches of the NMI and its cycles. -/
theorem State.nmiEntry_eq_tick (s : State) :
    s.nmiEntry =
      ({ s.enterHandler 0x0066 s.cpu.iff1 with
        lat := if s.lat.nmiLatch.getLsbD 5 then
            ({ s.lat with nmiSeen := true } : Latches).withNmi (s.lat.nmiLatch &&& ~~~0x20)
          else { s.lat with nmiSeen := true } } : State).tick s.cfg.nmiAckCycles := by
  have lat := s.enterHandler_lat 0x0066 s.cpu.iff1
  have cfg := s.enterHandler_cfg 0x0066 s.cpu.iff1
  unfold State.nmiEntry
  generalize s.enterHandler 0x0066 s.cpu.iff1 = t at lat cfg ⊢
  rw [← lat, ← cfg]
  dsimp only
  split
  · rw [clearNmi_withNmi]
  · rfl

theorem State.nmiEntry_eq (h : s.lat.nmiMask &&& s.lat.nmiLatch ≠ 0) :
    s.nmiEntry =
      { s.afterHaltTest.push s.resumePC with
        cpu := { s.cpu with
          pc := 0x0066, sp := s.cpu.sp - 2, iff1 := false, iff2 := s.cpu.iff1, halted := false }
        lat := { s.lat with
          nmiLatch := s.lat.nmiLatch &&& 0xDF
          nmiSeen := decide (s.lat.nmiMask &&& s.lat.nmiLatch &&& 0xDF ≠ 0) }
        clock := s.clock + s.cfg.nmiAckCycles } := by
  rw [s.nmiEntry_eq_tick, s.lat.nmiTaken h, State.enterHandler_eq, State.tick]
  simp [State.setCpu]

/-- Settles O48: a pending NMI goes before the maskable interrupt, and the entry is that of a
handler with the latches of the NMI. -/
theorem nmiEntryEffect : Obligations.NmiEntryEffect := by
  intro s hp hs resume u saved
  have pending : s.lat.nmiPending = true := by simpa [Latches.nmiPending, hs] using hp
  have check : s.interruptCheck =
      .ok { s.nmiEntry with cpu := { s.nmiEntry.cpu with eiShadow := false } } := by
    simp [State.interruptCheck, pending, Except.map]
  rw [State.nmiEntry_eq hp] at check
  exact ⟨_, check, rfl, State.pushed_afterHaltTest (by simp) rfl rfl⟩

end Sys2Proof.Machine
end

section
/-! The disk controller's drive select (O55) and data port (O58). -/

namespace Sys2Proof.Machine

variable {s : State} {v : Byte}

/-! ### Drive select (R583, R588) -/

theorem selectedDrive_eq_none : selectedDrive v = none ↔ v &&& 0x0F = 0 := by
  revert v
  decide

theorem selectedDrive_eq_some {n : Fin 4} :
    selectedDrive v = some n ↔
      v.getLsbD n.val = true ∧ ∀ m : Fin 4, m < n → v.getLsbD m.val = false := by
  revert v n
  decide

theorem State.fdcSelect_none (h : selectedDrive v = none) :
    s.fdcSelect v =
      { s with
        lat := s.lat.withNmi (s.lat.nmiLatch &&& 0xBF)
        fdc := { s.fdc with side := v.getLsbD 4, density := v.getLsbD 7 } } := by
  simp only [State.fdcSelect, h, clearNmi_withNmi]
  rfl

/-- The lights of a select of drive `n` (R588). -/
def Fdc.selectLights (f : Fdc) (n : Fin 4) : List Output :=
  if f.motorOn then
    (if n = f.drive then [] else [.motorLight f.drive.val false, .motorLight n.val true])
  else [.motorLight n.val true]

theorem State.fdcSelect_some {n : Fin 4} (h : selectedDrive v = some n) :
    s.fdcSelect v =
      { s with
        lat := s.lat.withNmi (s.lat.nmiLatch &&& 0xBF)
        fdc := { s.fdc with
          side := v.getLsbD 4, density := v.getLsbD 7, drive := n, motorOn := true
          motorTimeout := s.clock + 4055040 }
        outputs := s.outputs ++ s.fdc.selectLights n } := by
  simp only [State.fdcSelect, h, clearNmi_withNmi, Fdc.selectLights]
  by_cases hm : s.fdc.motorOn = true
  · by_cases hn : n = s.fdc.drive <;> simp [hm, hn, State.emit, Config.motorTimeout]
  · simp [hm, State.emit, Config.motorTimeout]

/-- Settles O55: the select with no drive bit set and with one. -/
theorem driveSelect : Obligations.DriveSelect := by
  intro s v t
  cases h : selectedDrive v with
  | none =>
    have e : t = _ := State.fdcSelect_none h
    rw [e]
    refine ⟨rfl, fun _ => ⟨rfl, rfl⟩, fun n hn hm => ?_, rfl⟩
    rw [selectedDrive_eq_some.2 ⟨hn, hm⟩] at h
    cases h
  | some k =>
    have e : t = _ := State.fdcSelect_some h
    rw [e]
    refine ⟨rfl, fun h0 => ?_, fun n hn hm => ?_, rfl⟩
    · rw [selectedDrive_eq_none.2 h0] at h
      cases h
    · rw [selectedDrive_eq_some.2 ⟨hn, hm⟩] at h
      cases h
      exact ⟨rfl, rfl⟩

/-! ### The data port (R606) -/

theorem and_stDrq (v : Byte) : v &&& stDrq ≠ 0 ↔ v.getLsbD 1 = true := by
  revert v
  decide

theorem State.dataReady_iff :
    s.dataReady = true ↔
      commandType s.fdc.command = .typeII ∧ s.fdc.status.getLsbD 1 = true ∧ 0 < s.fdc.byteCount := by
  simp only [State.dataReady, Bool.and_eq_true, beq_iff_eq, bne_iff_ne, decide_eq_true_eq,
    and_stDrq, and_assoc]

/-- The byte under the transfer: past the end of the image E5. -/
def State.imageByte (s : State) : Byte := s.cur.image.getD s.fdc.dataOffset 0xE5

theorem State.imageByte_eq (s : State) :
    s.imageByte =
      if h : s.fdc.dataOffset < s.cur.image.length then s.cur.image[s.fdc.dataOffset] else 0xE5 := by
  unfold State.imageByte
  split <;> simp [*]

theorem State.afterDataRead_idle (h : s.dataReady = false) : s.afterDataRead = s := by
  simp [State.afterDataRead, h]

theorem State.afterDataRead_more (h : s.dataReady = true) (hb : 1 < s.fdc.byteCount) :
    s.afterDataRead =
      { s with
        fdc := { s.fdc with
          data := s.imageByte, dataOffset := s.fdc.dataOffset + 1
          byteCount := s.fdc.byteCount - 1 } } := by
  have left : ¬s.fdc.byteCount - 1 = 0 := by omega
  simp [State.afterDataRead, h, left, State.imageByte]

theorem State.afterDataRead_last (h : s.dataReady = true) (hb : s.fdc.byteCount = 1) :
    s.afterDataRead =
      { s with
        fdc := { s.fdc with
          data := s.imageByte, dataOffset := s.fdc.dataOffset + 1, byteCount := 0
          status := s.fdc.status &&& 0xFD }
        events := insertEvent ⟨0x01, s.clock + 64, s.seqNo, .diskDone 0x01⟩
          (s.events.filter (fun e => e.kind &&& 0x02 == 0))
        seqNo := s.seqNo + 1 } := by
  rw [State.afterDataRead, if_pos h]
  simp only [hb]
  rfl

/-- Settles O58: a byte is consumed when the transfer is ready, and the last one ends it. -/
theorem dataRead : Obligations.DataRead := by
  intro s ready img v
  have hv : s.imageByte = v := s.imageByte_eq
  refine ⟨fun h => ?idle, fun h => ?ready⟩
  case idle =>
    have e := State.afterDataRead_idle (Bool.eq_false_iff.2 (mt State.dataReady_iff.1 h))
    exact ⟨by rw [State.dataRead, e], e⟩
  case ready =>
    have hr := State.dataReady_iff.2 h
    rw [← hv]
    have cases : 1 < s.fdc.byteCount ∨ s.fdc.byteCount = 1 := by
      obtain ⟨-, -, hpos⟩ := h
      omega
    rcases cases with hb | hb
    · have e := State.afterDataRead_more hr hb
      refine ⟨by rw [State.dataRead, e], fun _ => e, fun h1 => ?_⟩
      omega
    · have e := State.afterDataRead_last hr hb
      rw [State.dataRead, e]
      refine ⟨rfl, fun h1 => ?_, fun _ => ⟨rfl, fun x => ?_, rfl⟩⟩
      · omega
      · rw [mem_insertEvent, List.mem_filter, beq_iff_eq, or_comm]

end Sys2Proof.Machine
end

section
/-! The cassette replay (O59): what an edge does, and that an update is the edges of the samples it
consumes. An edge neither reads nor writes the count of samples, so the count can be moved on at the
end. -/

namespace Sys2Proof.Machine

variable {s : State}

/-! ### Samples and edges (R661, R666) -/

theorem classify_positive (w : Word) : classify w = .positive ↔ 5000 < w.toInt := by
  unfold classify Config.cassetteThreshold
  split_ifs <;> simp_all

theorem classify_negative (w : Word) : classify w = .negative ↔ w.toInt < -5000 := by
  unfold classify Config.cassetteThreshold
  split_ifs <;> simp_all
  omega

/-- The state an edge leaves (R666). -/
theorem State.cassetteEdge_eq (s : State) (v : Level) :
    s.cassetteEdge v = { s with
      cas := { s.cas with
        last := v
        lastNonNeutral := if v = .neutral then s.cas.lastNonNeutral else v
        flipflop := s.cas.flipflop || decide (v ≠ s.cas.last ∧ v ≠ .neutral) }
      lat := { s.lat with
        irqLatch := s.lat.irqLatch |||
          (if v ≠ s.cas.last ∧ v = .positive then 0x01
            else if v ≠ s.cas.last ∧ v = .negative then 0x02 else 0x00) } } := by
  unfold State.cassetteEdge
  by_cases e : v = s.cas.last
  · simp [e]
  · cases v <;> simp [e, State.raiseIrq]

/-! ### The update (R665) -/

/-- The edges of the samples `l` in order. -/
def State.edges (s : State) (l : List Word) : State :=
  l.foldl (fun u w => u.cassetteEdge (classify w)) s

/-- `s` with its count of samples at `n`. -/
def State.withSamplesRead (s : State) (n : Nat) : State :=
  { s with cas := { s.cas with samplesRead := n } }

theorem State.withSamplesRead_edges (s : State) (n : Nat) (l : List Word) :
    (s.withSamplesRead n).edges l = (s.edges l).withSamplesRead n := by
  induction l generalizing s with
  | nil => rfl
  | cons w l ih =>
    have edge : (s.withSamplesRead n).cassetteEdge (classify w) =
        (s.cassetteEdge (classify w)).withSamplesRead n := by
      rw [State.cassetteEdge_eq, State.cassetteEdge_eq]
      rfl
    change ((s.withSamplesRead n).cassetteEdge (classify w)).edges l = _
    rw [edge, ih]
    rfl

theorem State.cassetteSample_eq (s : State) (w : Word) :
    s.cassetteSample w =
      (s.cassetteEdge (classify w)).withSamplesRead (s.cas.samplesRead + 1) := by
  rw [State.cassetteSample, State.cassetteEdge_eq]
  rfl

/-- Samples consumed one by one are their edges with the count moved on once. -/
theorem State.foldl_cassetteSample (s : State) (l : List Word) :
    l.foldl State.cassetteSample s =
      (s.edges l).withSamplesRead (s.cas.samplesRead + l.length) := by
  induction l generalizing s with
  | nil => rfl
  | cons w l ih =>
    have count : (s.cassetteSample w).cas.samplesRead = s.cas.samplesRead + 1 := by
      rw [State.cassetteSample_eq]
      rfl
    rw [List.foldl_cons, ih, count, State.cassetteSample_eq, State.withSamplesRead_edges,
      List.length_cons, Nat.add_assoc, Nat.add_comm 1]
    rfl

/-- The level after some edges is that of the last sample. -/
theorem State.edges_concat_last (s : State) (l : List Word) (w : Word) :
    (s.edges (l ++ [w])).cas.last = classify w := by
  rw [State.edges, List.foldl_append, List.foldl_cons, List.foldl_nil, State.cassetteEdge_eq]

/-- The samples an update consumes (R665). -/
def State.dueSamples (s : State) : List Word :=
  (s.cas.tape.samples.drop s.cas.samplesRead).take (s.cassetteTarget - s.cas.samplesRead)

/-- The count after an update. -/
theorem State.samplesRead_add_dueSamples (s : State) :
    s.cas.samplesRead + s.dueSamples.length =
      max s.cas.samplesRead (min s.cas.tape.samples.length s.cassetteTarget) := by
  rw [State.dueSamples, List.length_take, List.length_drop]
  omega

/-- The samples due are those from the old to the new count. -/
theorem State.dueSamples_eq (s : State) :
    s.dueSamples =
      (s.cas.tape.samples.take (s.cas.samplesRead + s.dueSamples.length)).drop
        s.cas.samplesRead := by
  rw [← List.take_drop]
  exact List.take_eq_take_iff.2 (by simp [State.dueSamples])

theorem State.cassetteUpdate_reading (hm : s.cas.motor = true) (hr : s.cas.state = .read) :
    s.cassetteUpdate =
      (s.edges s.dueSamples).withSamplesRead (s.cas.samplesRead + s.dueSamples.length) := by
  rw [State.cassetteUpdate, if_pos ⟨hm, hr⟩]
  exact s.foldl_cassetteSample s.dueSamples

/-- The last sample due. -/
theorem State.getElem?_of_dueSamples_concat {l : List Word} {w : Word}
    (h : s.dueSamples = l ++ [w]) :
    s.cas.tape.samples[s.cas.samplesRead + s.dueSamples.length - 1]? = some w := by
  have last : s.dueSamples[l.length]? = some w := by rw [h, List.getElem?_concat_length]
  rw [State.dueSamples, List.getElem?_take] at last
  split_ifs at last
  rw [List.getElem?_drop] at last
  rw [h, List.length_append, List.length_singleton, ← Nat.add_assoc, Nat.add_sub_cancel, last]

/-- Settles O59: the edges of the samples due, with the count moved on. -/
theorem cassetteReplay : Obligations.CassetteReplay := by
  refine ⟨fun w => ⟨classify_positive w, classify_negative w⟩, State.cassetteEdge_eq, fun s => ?_⟩
  refine ⟨fun h => if_neg h, fun hm hr => ?reading⟩
  case reading =>
    have update := State.cassetteUpdate_reading hm hr
    have count : s.cassetteUpdate.cas.samplesRead = s.cas.samplesRead + s.dueSamples.length := by
      rw [update]
      rfl
    rw [count]
    refine ⟨s.samplesRead_add_dueSamples, ?edges, fun hlt => ?level⟩
    case edges =>
      rw [update, ← s.dueSamples_eq]
      rfl
    case level =>
      rcases List.eq_nil_or_concat s.dueSamples with hl | ⟨l, w, hl⟩
      · simp [hl] at hlt
      · rw [List.concat_eq_append] at hl
        rw [State.getElem?_of_dueSamples_concat hl, update, hl]
        exact congrArg some (s.edges_concat_last l w)

end Sys2Proof.Machine
end

section
/-! The host actions (O60): the batch, the media, the keys, the reset button and boot. -/

namespace Sys2Proof.Machine

variable {s : State}

/-! ### The batch (R542) -/

theorem drainInbox_cons {batch : List HostAction} {rest : List (List HostAction)}
    (h : s.inbox = batch :: rest) :
    s.drainInbox = ({ s with inbox := rest } : State).hostActions batch := by
  rw [State.drainInbox, h]

theorem hostActions_shutDown (x : HostAction) (l : List HostAction) (h : s.shutDown = true) :
    s.hostActions (x :: l) = .ok s := by
  rw [State.hostActions, if_pos h]

theorem hostActions_error {x : HostAction} {l : List HostAction} {f : Fault}
    (h : s.shutDown = false) (hx : s.hostAction x = .error f) :
    s.hostActions (x :: l) = .error f := by
  simp [State.hostActions, h, hx]

theorem hostActions_ok {x : HostAction} {l : List HostAction} {t : State}
    (h : s.shutDown = false) (hx : s.hostAction x = .ok t) :
    s.hostActions (x :: l) = t.hostActions l := by
  simp [State.hostActions, h, hx]

/-! ### Media (R625) -/

theorem slot_eq {d : Fin 2} {n : Fin 4} (h : n.val = d.val) : slot d = n := Fin.ext h.symm

theorem mountDisk_of_some {d : Fin 2} {img : List Byte} {dr : Drive}
    (h : (s.drv[slot d]).mount img = some dr) :
    s.mountDisk d img = .ok { s with drv := s.drv.set (slot d) dr } := by
  rw [State.mountDisk, h]

theorem mountDisk_of_none {d : Fin 2} {img : List Byte} (h : (s.drv[slot d]).mount img = none) :
    s.mountDisk d img = .error (s.fatal (.badDiskImage img.length)) := by
  rw [State.mountDisk, h]

theorem Drive.mount_jv1 (dr : Drive) {img : List Byte} (h : img.length = 89600) :
    dr.mount img = some { dr with kind := .jv1, image := img } := if_pos h

theorem Drive.mount_jv3 (dr : Drive) {img : List Byte}
    (h : img.length = 193024 ∨ img.length = 377344) :
    dr.mount img = some { dr with kind := .jv3, image := img, jv3 := jv3Load img } := by
  have other : img.length ≠ Config.jv1Length := by
    rcases h with h | h <;> rw [h] <;> decide
  have known : img.length ∈ Config.jv3Lengths := by simpa [Config.jv3Lengths] using h
  rw [Drive.mount, if_neg other, if_pos known]

theorem Drive.mount_none (dr : Drive) {img : List Byte} (h1 : img.length ≠ 89600)
    (h2 : img.length ≠ 193024) (h3 : img.length ≠ 377344) : dr.mount img = none := by
  have unknown : img.length ∉ Config.jv3Lengths := by simp [Config.jv3Lengths, h2, h3]
  rw [Drive.mount, if_neg (show img.length ≠ Config.jv1Length from h1), if_neg unknown]

/-! ### Breakpoints, reset and boot -/

theorem addBreakpoint_eq (s : State) (pc : Word) :
    ∃ l, s.addBreakpoint pc = { s with breakpoints := l } ∧
      ∀ a, a ∈ l ↔ a ∈ s.breakpoints ∨ a = pc := by
  by_cases h : pc ∈ s.breakpoints
  · refine ⟨s.breakpoints, if_pos h, fun a => ⟨.inl, ?_⟩⟩
    rintro (ha | rfl)
    · exact ha
    · exact h
  · exact ⟨s.breakpoints ++ [pc], if_neg h, fun a => by simp⟩

theorem State.emitIf_eq (s : State) (b : Bool) (o : Output) :
    s.emitIf b o = { s with outputs := s.outputs ++ if b then [o] else [] } := by
  cases b <;> simp [State.emitIf, State.emit]

/-- The reset button (R711, R712). -/
theorem State.resetButton_eq (s : State) :
    s.resetButton =
      { s with
        lat := ⟨0x00, 0x00, 0x20, 0x20, false⟩
        modeImage := 0x00
        events := []
        outputs := s.outputs ++
          ((if s.fdc.motorOn then [.motorLight s.fdc.drive.val false] else []) ++
            (if s.cas.motor then [.motorLight (-1) false] else []) ++
            (if s.modeImage.getLsbD 2 then [.expanded false] else []))
        fdc := .cleared
        cas := { Cassette.cleared with source := s.cas.source, tape := s.cas.tape }
        kbd := .cleared
        running := true
        skipBreak := true } := by
  have lat : Latches.cleared.withNmi (Latches.cleared.nmiLatch ||| 0x20) =
      ⟨0x00, 0x00, 0x20, 0x20, false⟩ := by decide
  rw [← lat, State.resetButton, raiseNmi_withNmi]
  simp only [State.deviceReset, State.emitIf_eq, List.append_assoc]
  rfl

/-! ### Keys (R691, R695) -/

theorem keyAction_of_some {k : HostKey} {row bit : Fin 8} {f : ShiftForce} (pressed : Bool)
    (h : k.toCell = some (row, bit, f)) :
    s.keyAction k pressed =
      { s with kbd := { s.kbd with queue := s.kbd.queue ++ [⟨row, bit, f, pressed⟩] } } := by
  rw [State.keyAction, h]

theorem keyAction_of_none {k : HostKey} (pressed : Bool) (h : k.toCell = none) :
    s.keyAction k pressed = s := by
  rw [State.keyAction, h]

/-- The cells without a legend are those marked – in R695. -/
theorem toCell_cell (row bit : Fin 8) (f : ShiftForce) :
    (HostKey.cell row bit f).toCell =
      if (row = 3 ∧ 3 ≤ bit) ∨ (row = 7 ∧ 2 ≤ bit) then none else some (row, bit, f) := by
  have marked : ∀ row bit : Fin 8,
      hasLegend row bit = false ↔ (row = 3 ∧ 3 ≤ bit) ∨ (row = 7 ∧ 2 ≤ bit) := by decide
  rw [HostKey.toCell]
  by_cases h : (row = 3 ∧ 3 ≤ bit) ∨ (row = 7 ∧ 2 ≤ bit)
  · rw [if_pos h, (marked row bit).2 h]
    rfl
  · rw [if_neg h, if_pos (by simpa using mt (marked row bit).1 h)]

/-- The characters outside the map (R695). -/
theorem asciiCell_outside {n : Nat} (h : n < 0x21 ∨ (0x5B ≤ n ∧ n ≤ 0x60) ∨ 0x7B ≤ n) :
    asciiCell n = none := by
  unfold asciiCell
  rw [if_neg (by omega), if_neg (by omega), if_neg (by omega), if_neg (by omega), if_neg (by omega),
    if_neg (by omega)]

/-- Settles O60: the batch, the media, the plain actions, and the key map. -/
theorem hostActions : Obligations.HostActions := by
  refine ⟨fun s => ?batch, fun s d n img hn => ?media, fun s src pc => ?plain, fun s k => ?keys,
    toCell_cell, ?map⟩
  case batch =>
    exact ⟨drainInbox_quiet, fun batch rest => drainInbox_cons, rfl, hostActions_shutDown,
      fun x l f => hostActions_error, fun x l t => hostActions_ok⟩
  case media =>
    obtain rfl := slot_eq hn
    refine ⟨fun h => ?_, fun h => ?_, fun h1 h2 h3 => ?_, rfl⟩
    · exact mountDisk_of_some (Drive.mount_jv1 _ h)
    · exact mountDisk_of_some (Drive.mount_jv3 _ h)
    · exact mountDisk_of_none (Drive.mount_none _ h1 h2 h3)
  case plain =>
    obtain ⟨l, hl, mem⟩ := addBreakpoint_eq s pc
    exact ⟨rfl, ⟨l, congrArg Except.ok hl, mem⟩, rfl, rfl, rfl, congrArg Except.ok s.resetButton_eq⟩
  case keys =>
    refine ⟨fun row bit f h => ⟨?_, ?_⟩, fun h => ⟨?_, ?_⟩⟩
    · exact congrArg Except.ok (keyAction_of_some true h)
    · exact congrArg Except.ok (keyAction_of_some false h)
    · exact congrArg Except.ok (keyAction_of_none true h)
    · exact congrArg Except.ok (keyAction_of_none false h)
  case map =>
    intro at' key
    refine ⟨by decide, by decide, by decide, by decide, by decide, by decide, fun n h => ?outside,
      by decide⟩
    case outside =>
      have code : (BitVec.ofNat 8 n).toNat = n := Nat.mod_eq_of_lt (by omega)
      change asciiCell (BitVec.ofNat 8 n).toNat = none
      rw [code]
      exact asciiCell_outside (by omega)

end Sys2Proof.Machine
end

section
/-! Sector search on a JV3 drive (R612): the walk along the sorted index finds what `Finds` says. -/

namespace Sys2Proof.Machine

variable {s : State} {t : Jv3Tables} {p : Nat} {side : Bool}

/-! ### Tables -/

theorem Jv3Tables.startOf_eq (t : Jv3Tables) (p : Nat) (side : Bool) :
    t.startOf p side = t.start p side := by
  rw [Jv3Tables.startOf, Jv3Tables.start, List.getD_eq_getElem?_getD]
  cases t.trackStart[p]? <;> cases side <;> rfl

theorem Jv3Tables.id_of_getElem? {i : Nat} {e : SectorId} (h : t.ids[i]? = some e) : t.id i = e := by
  rw [Jv3Tables.id, List.getD_eq_getElem?_getD, h]
  rfl

/-- A descriptor on a track below 255 stands in the table: outside it the sentinel is read. -/
theorem Jv3Tables.getElem?_of_track {i : Nat} (h : (t.id i).track.toNat = p) (hp : p < 255) :
    t.ids[i]? = some (t.id i) := by
  cases hi : t.ids[i]? with
  | some e => rw [Jv3Tables.id_of_getElem? hi]
  | none =>
    have outside : t.id i = .sentinel := by
      rw [Jv3Tables.id, List.getD_eq_getElem?_getD, hi]
      rfl
    have track : SectorId.sentinel.track.toNat = 255 := rfl
    rw [outside, track] at h
    omega

/-! ### The walk -/

/-- What a walk looks for: any sector, or one by number and density. -/
def SectorId.Wanted (sector : Option Nat) (density : Bool) (e : SectorId) : Prop :=
  ∀ n, sector = some n → e.sector.toNat = n ∧ e.density = density

/-- The descriptor is on the track and side. -/
def SectorId.On (p : Nat) (side : Bool) (e : SectorId) : Prop :=
  e.track.toNat = p ∧ e.side = side

variable {sector : Option Nat} {density : Bool} {i : Nat} {l : List Nat}

theorem jv3Walk_off (h : ¬(t.id i).On p side) :
    jv3Walk t p side density sector (i :: l) = none := by
  have off : (t.id i).track.toNat ≠ p ∨ (t.id i).side ≠ side := not_and_or.1 h
  simp only [jv3Walk, if_pos off]

theorem jv3Walk_wanted (h : (t.id i).On p side) (hw : (t.id i).Wanted sector density) :
    jv3Walk t p side density sector (i :: l) = some i := by
  obtain ⟨ht, hs⟩ := h
  cases sector with
  | none => simp [jv3Walk, ht, hs]
  | some n => simp [jv3Walk, ht, hs, hw n rfl]

theorem jv3Walk_other (h : (t.id i).On p side) (hw : ¬(t.id i).Wanted sector density) :
    jv3Walk t p side density sector (i :: l) = jv3Walk t p side density sector l := by
  obtain ⟨ht, hs⟩ := h
  cases sector with
  | none => exact absurd (fun n hn => by cases hn) hw
  | some n =>
    have other : ¬((t.id i).sector.toNat = n ∧ (t.id i).density = density) := fun h =>
      hw fun m hm => by cases hm; exact h
    simp [jv3Walk, ht, hs, other]

/-- The walk ends at the first wanted descriptor, all before it being on the track and side. -/
theorem jv3Walk_eq_some :
    jv3Walk t p side density sector l = some i ↔
      ∃ n : Nat, l[n]? = some i ∧ (t.id i).On p side ∧ (t.id i).Wanted sector density ∧
        ∀ m, m < n → ∃ j, l[m]? = some j ∧ (t.id j).On p side ∧
          ¬(t.id j).Wanted sector density := by
  induction l with
  | nil => simp [jv3Walk]
  | cons k l ih =>
    by_cases hon : (t.id k).On p side
    · by_cases hw : (t.id k).Wanted sector density
      · rw [jv3Walk_wanted hon hw, Option.some.injEq]
        constructor
        · rintro rfl
          exact ⟨0, rfl, hon, hw, fun m hm => absurd hm (Nat.not_lt_zero m)⟩
        · rintro ⟨n, hn, -, -, before⟩
          cases n with
          | zero => exact Option.some.inj hn
          | succ n =>
            obtain ⟨j, hj, -, hnw⟩ := before 0 (Nat.succ_pos n)
            cases hj
            exact absurd hw hnw
      · rw [jv3Walk_other hon hw, ih]
        constructor
        · rintro ⟨n, hn, hi, hiw, before⟩
          refine ⟨n + 1, hn, hi, hiw, fun m hm => ?_⟩
          cases m with
          | zero => exact ⟨k, rfl, hon, hw⟩
          | succ m => exact before m (by omega)
        · rintro ⟨n, hn, hi, hiw, before⟩
          cases n with
          | zero =>
            cases hn
            exact absurd hiw hw
          | succ n => exact ⟨n, hn, hi, hiw, fun m hm => before (m + 1) (by omega)⟩
    · rw [jv3Walk_off hon]
      refine ⟨(fun h => nomatch h), ?_⟩
      rintro ⟨n, hn, hi, -, before⟩
      cases n with
      | zero =>
        cases hn
        exact absurd hi hon
      | succ n =>
        obtain ⟨j, hj, hjon, -⟩ := before 0 (Nat.succ_pos n)
        cases hj
        exact absurd hjon hon

/-- The entries the walk runs over: from the start of the track and side to before N. -/
theorem getElem?_walked (t : Jv3Tables) (k n : Nat) :
    ((t.sortedId.take t.count).drop k)[n]? = some i ↔
      k + n + 1 < t.ids.length ∧ t.sortedId[k + n]? = some i := by
  rw [List.getElem?_drop, List.getElem?_take, Jv3Tables.count]
  split
  · exact ⟨fun h => ⟨by omega, h⟩, fun h => h.2⟩
  · exact ⟨fun h => (nomatch h), fun h => by omega⟩

/-- An entry of the tables on a track below 255. -/
theorem entry_iff {n : Nat} {e : SectorId} (hp : p < 255) (he : e.track.toNat = p) :
    t.Entry n i e ↔ t.sortedId[n]? = some i ∧ t.id i = e := by
  refine and_congr_right fun _ => ⟨Jv3Tables.id_of_getElem?, ?_⟩
  rintro rfl
  exact Jv3Tables.getElem?_of_track he hp

/-- `Finds` in terms of the walk. -/
theorem finds_iff_walk {e : SectorId} (hp : p < 255) :
    t.Finds p side (SectorId.Wanted sector density) i e ↔
      t.id i = e ∧ ∃ k, t.startOf p side = some k ∧
        jv3Walk t p side density sector ((t.sortedId.take t.count).drop k) = some i := by
  constructor
  · rintro ⟨k, n, hk, hle, hn, he, hw, ht, hs, before⟩
    obtain ⟨hi, rfl⟩ := (entry_iff hp ht).1 he
    obtain ⟨n, rfl⟩ := Nat.exists_eq_add_of_le hle
    refine ⟨rfl, k, hk, jv3Walk_eq_some.2
      ⟨n, (getElem?_walked t k n).2 ⟨hn, hi⟩, ⟨ht, hs⟩, hw, fun m hm => ?_⟩⟩
    obtain ⟨j, x, hx, hxt, hxs, hxw⟩ := before (k + m) (by omega) (by omega)
    obtain ⟨hj, rfl⟩ := (entry_iff hp hxt).1 hx
    exact ⟨j, (getElem?_walked t k m).2 ⟨by omega, hj⟩, ⟨hxt, hxs⟩, hxw⟩
  · rintro ⟨rfl, k, hk, walk⟩
    obtain ⟨n, hn, ⟨ht, hs⟩, hw, before⟩ := jv3Walk_eq_some.1 walk
    obtain ⟨hlt, hi⟩ := (getElem?_walked t k n).1 hn
    refine ⟨k, k + n, hk, Nat.le_add_right k n, hlt, (entry_iff hp ht).2 ⟨hi, rfl⟩, hw, ht, hs,
      fun m hkm hm => ?_⟩
    obtain ⟨m, rfl⟩ := Nat.exists_eq_add_of_le hkm
    obtain ⟨j, hj, ⟨hjt, hjs⟩, hjw⟩ := before m (by omega)
    exact ⟨j, t.id j, (entry_iff hp hjt).2 ⟨((getElem?_walked t k m).1 hj).2, rfl⟩, hjt, hjs, hjw⟩

/-- The search is the walk from the start of the track and side, when no other side is asked for
and the head is on the disk. -/
theorem State.jv3Search_eq_some {req : Option Bool} (hr : req ≠ some !s.fdc.side)
    (hp : s.cur.phys < 255) :
    s.jv3Search sector req = some i ↔
      ∃ k, s.cur.jv3.startOf s.cur.phys s.fdc.side = some k ∧
        jv3Walk s.cur.jv3 s.cur.phys s.fdc.side s.fdc.density sector
          ((s.cur.jv3.sortedId.take s.cur.jv3.count).drop k) = some i := by
  have head : ¬Config.maxTracks ≤ s.cur.phys := Nat.not_le.2 hp
  simp only [State.jv3Search, if_neg hr, if_neg head, Jv3Tables.startOf_eq]
  cases s.cur.jv3.start s.cur.phys s.fdc.side <;> simp

/-- The search finds what `Finds` says. -/
theorem State.finds_iff_jv3Search {req : Option Bool} {e : SectorId} (hr : req ≠ some !s.fdc.side)
    (hp : s.cur.phys < 255) :
    s.cur.jv3.Finds s.cur.phys s.fdc.side (SectorId.Wanted sector s.fdc.density) i e ↔
      s.cur.jv3.id i = e ∧ s.jv3Search sector req = some i := by
  rw [finds_iff_walk hp, State.jv3Search_eq_some hr hp]

/-- It finds nothing when `Finds` says so. -/
theorem State.jv3Search_eq_none {req : Option Bool} (hr : req ≠ some !s.fdc.side)
    (hp : s.cur.phys < 255)
    (h : ∀ i e,
      ¬s.cur.jv3.Finds s.cur.phys s.fdc.side (SectorId.Wanted sector s.fdc.density) i e) :
    s.jv3Search sector req = none :=
  Option.eq_none_iff_forall_ne_some.2 fun i hi =>
    h i _ ((State.finds_iff_jv3Search hr hp).2 ⟨rfl, hi⟩)

end Sys2Proof.Machine
end

section
/-! The command writes of Type I and Type IV, and the refused ones (O56). -/

namespace Sys2Proof.Machine

variable {s u : State} {c track : Byte} {p : Nat} {dir : StepDir}

/-! ### The command digit (R592) -/

/-- The state in which a command runs: IntRq is acknowledged and the command latched (R592). -/
def State.commanded (s : State) (c : Byte) : State :=
  { s with
    lat := s.lat.withNmi (s.lat.nmiLatch &&& 0x7F)
    fdc := { s.fdc with command := c } }

/-- The state in which the commands that cancel the disk events run (R592). -/
def State.started (s : State) (c : Byte) : State := (s.commanded c).cancel kindDisk

theorem highDigit (c : Byte) : (c.extractLsb' 4 4).toNat = c.toNat / 16 := by
  have : c.toNat < 256 := c.isLt
  rw [BitVec.extractLsb'_toNat, Nat.shiftRight_eq_div_pow]
  omega

theorem State.fdcCommand_typeI (h : c.toNat < 0x80) :
    s.fdcCommand c = .ok ((s.started c).typeI c) := by
  have digit : c.toNat / 16 < 8 := by omega
  simp only [State.fdcCommand, clearNmi_withNmi, highDigit]
  generalize c.toNat / 16 = n at digit
  interval_cases n <;> rfl

theorem State.fdcCommand_readSector (h1 : 0x80 ≤ c.toNat) (h2 : c.toNat < 0xA0) :
    s.fdcCommand c = .ok ((s.started c).readSector c) := by
  have least : 8 ≤ c.toNat / 16 := by omega
  have most : c.toNat / 16 ≤ 9 := by omega
  simp only [State.fdcCommand, clearNmi_withNmi, highDigit]
  generalize c.toNat / 16 = n at least most
  interval_cases n <;> rfl

theorem State.fdcCommand_forceInterrupt (h1 : 0xD0 ≤ c.toNat) (h2 : c.toNat < 0xE0) :
    s.fdcCommand c = .ok ((s.commanded c).forceInterrupt c) := by
  have digit : c.toNat / 16 = 13 := by omega
  simp only [State.fdcCommand, clearNmi_withNmi, highDigit, digit]
  rfl

theorem State.fdcCommand_refused (h : (0xA0 ≤ c.toNat ∧ c.toNat < 0xD0) ∨ 0xE0 ≤ c.toNat) :
    s.fdcCommand c = .error ((s.commanded c).fatal (.fdcUnsupportedCommand c)) := by
  have bound : c.toNat < 256 := c.isLt
  have digit : (10 ≤ c.toNat / 16 ∧ c.toNat / 16 < 13) ∨ (14 ≤ c.toNat / 16 ∧ c.toNat / 16 < 16) := by
    omega
  simp only [State.fdcCommand, clearNmi_withNmi, highDigit]
  generalize c.toNat / 16 = n at digit
  rcases digit with ⟨least, most⟩ | ⟨least, most⟩ <;> interval_cases n <;> rfl

/-! ### The head movement (R593 to R595) -/

/-- The head at `p`, with the track register and the direction. -/
def State.headAt (u : State) (p : Nat) (track : Byte) (dir : StepDir) : State :=
  { u with
    fdc := { u.fdc with track := track, stepDir := dir }
    drv := u.drv.set u.fdc.drive { u.cur with phys := p } }

/-- The direction of a seek: that of the track register to the data register (R594). -/
def Fdc.seekDir (f : Fdc) : StepDir :=
  if f.track.toNat < f.data.toNat then .inward
  else if f.data.toNat < f.track.toNat then .outward else f.stepDir

/-- The direction of a step command (R595). -/
def Fdc.commandDir (f : Fdc) (c : Byte) : StepDir :=
  if c.toNat < 0x40 then f.stepDir else if c.toNat < 0x60 then .inward else .outward

/-- What a Type I command `c` makes of the head, the track register and the direction of `u`. -/
structure TypeIMoved (u : State) (c : Byte) (p : Nat) (track : Byte) (dir : StepDir) : Prop where
  onDisk : p < 255
  restore : c.toNat < 0x10 → p = 0 ∧ track = 0 ∧ dir = .outward
  seek : 0x10 ≤ c.toNat → c.toNat < 0x20 →
    p = clampTrack ((u.cur.phys : Int) + u.fdc.data.toNat - u.fdc.track.toNat) ∧
    track = u.fdc.data ∧ dir = u.fdc.seekDir
  step : 0x20 ≤ c.toNat →
    p = clampTrack ((u.cur.phys : Int) + dir.toInt) ∧
    track = (if c.getLsbD 4 = false then u.fdc.track else u.fdc.track + dir.toByte) ∧
    dir = u.fdc.commandDir c

theorem clampTrack_cast (n : Int) : (clampTrack n : Int) = max 0 (min 254 n) := by
  simp only [clampTrack, Config.maxTracks]
  omega

theorem clampTrack_step (n : Nat) (dir : StepDir) :
    clampTrack ((n : Int) + dir.toInt) =
      match dir with
      | .inward => min 254 (n + 1)
      | .outward => min 254 (n - 1) := by
  cases dir <;> simp only [clampTrack, Config.maxTracks, StepDir.toInt] <;> omega

theorem track_step (v : Byte) (dir : StepDir) :
    v + dir.toByte =
      match dir with
      | .inward => v + 1
      | .outward => v - 1 := by
  cases dir with
  | inward => rfl
  | outward => exact (sub_eq_add_neg v 1).symm

theorem typeIMove_restore (h : c.toNat < 0x10) : u.typeIMove c = u.headAt 0 0 .outward := by
  have digit : c.toNat / 16 = 0 := by omega
  simp only [State.typeIMove, highDigit, digit]
  rfl

theorem typeIMove_seek (h1 : 0x10 ≤ c.toNat) (h2 : c.toNat < 0x20) :
    u.typeIMove c =
      u.headAt (clampTrack ((u.cur.phys : Int) + u.fdc.data.toNat - u.fdc.track.toNat)) u.fdc.data
        u.fdc.seekDir := by
  have digit : c.toNat / 16 = 1 := by omega
  have moved : u.typeIMove c = u.seek := by simp only [State.typeIMove, highDigit, digit]
  rw [moved, State.seek, Fdc.seekDir]
  by_cases inward : u.fdc.track.toNat < u.fdc.data.toNat
  · simp only [if_pos inward]
    rfl
  · by_cases outward : u.fdc.data.toNat < u.fdc.track.toNat
    · simp only [if_neg inward, if_pos outward]
      rfl
    · simp only [if_neg inward, if_neg outward]
      rfl

theorem typeIMove_step (h1 : 0x20 ≤ c.toNat) (h2 : c.toNat < 0x80) :
    u.typeIMove c =
      (u.setStepDir (u.fdc.commandDir c)).stepBy (u.fdc.commandDir c) (c.getLsbD 4) := by
  have least : 2 ≤ c.toNat / 16 := by omega
  have most : c.toNat / 16 < 8 := by omega
  have low : c.toNat < 0x40 ↔ c.toNat / 16 < 4 := by omega
  have middle : c.toNat < 0x60 ↔ c.toNat / 16 < 6 := by omega
  simp only [State.typeIMove, highDigit, Fdc.commandDir, low, middle]
  generalize c.toNat / 16 = n at least most
  interval_cases n <;> rfl

/-- One step in direction `dir`, the track register following when bit 4 says so. -/
theorem stepBy_eq (u : State) (dir : StepDir) (c : Byte) :
    (u.setStepDir dir).stepBy dir (c.getLsbD 4) =
      u.headAt (clampTrack ((u.cur.phys : Int) + dir.toInt))
        (if c.getLsbD 4 = false then u.fdc.track else u.fdc.track + dir.toByte) dir := by
  rw [State.stepBy]
  cases c.getLsbD 4 <;> rfl

theorem typeIMoved (u : State) (h : c.toNat < 0x80) :
    ∃ p track dir, TypeIMoved u c p track dir ∧ u.typeIMove c = u.headAt p track dir := by
  have range : c.toNat < 0x10 ∨ (0x10 ≤ c.toNat ∧ c.toNat < 0x20) ∨ 0x20 ≤ c.toNat := by omega
  rcases range with h1 | ⟨h1, h2⟩ | h1
  · refine ⟨_, _, _, ⟨by decide, fun _ => ⟨rfl, rfl, rfl⟩, fun h => ?_, fun h => ?_⟩,
      typeIMove_restore h1⟩ <;> omega
  · refine ⟨_, _, _, ⟨clampTrack_lt _, fun h => ?_, fun _ _ => ⟨rfl, rfl, rfl⟩, fun h => ?_⟩,
      typeIMove_seek h1 h2⟩ <;> omega
  · refine ⟨_, _, _, ⟨clampTrack_lt _, fun h => ?_, fun _ h => ?_, fun _ => ⟨rfl, rfl, rfl⟩⟩,
      (typeIMove_step h1 h).trans (stepBy_eq u _ c)⟩ <;> omega

/-! ### Verify (R597) -/

/-- The status bits of `Verify` (R597). -/
def State.verifyBits (u : State) : Byte :=
  if u.cur.kind = .jv3 then
    match u.jv3Search none none with
    | none => 0x10
    | some i => if (u.cur.jv3.id i).crc then 0x08 else 0x00
  else if u.fdc.track.toNat ≠ u.cur.phys ∨ (u.cur.kind = .jv1 ∧ u.fdc.density = true) then 0x10
  else 0x00

theorem State.orStatus_zero (u : State) : u.orStatus 0x00 = u := by
  have same : u.fdc.status ||| 0x00 = u.fdc.status := BitVec.or_zero
  rw [State.orStatus, same]
  rfl

theorem State.verify_eq (u : State) : u.verify = u.orStatus u.verifyBits := by
  by_cases jv3 : u.cur.kind = .jv3
  · have search : u.searchSector none none = u.jv3Search none none := by
      rw [State.searchSector, jv3]
    rw [State.verify, State.verifyBits, if_neg (not_not.2 jv3), if_pos jv3]
    simp only [search]
    cases u.jv3Search none none with
    | none => rfl
    | some i =>
      by_cases crc : (u.cur.jv3.id i).crc = true
      · exact (if_pos crc).trans (congrArg u.orStatus (if_pos crc).symm)
      · exact (if_neg crc).trans (u.orStatus_zero.symm.trans (congrArg u.orStatus (if_neg crc).symm))
  · rw [State.verify, State.verifyBits, if_pos jv3, if_neg jv3]
    by_cases away : u.fdc.track.toNat ≠ u.cur.phys
    · rw [if_pos away, if_pos (.inl away)]
      rfl
    · by_cases double : u.cur.kind = .jv1 ∧ u.fdc.density = true
      · rw [if_neg away, if_pos double, if_pos (.inr double)]
        rfl
      · rw [if_neg away, if_neg double, if_neg (not_or.2 ⟨away, double⟩), u.orStatus_zero]

/-- The bits of a verify on a JV3 drive, by what the search for any sector finds (R597, R612). -/
theorem State.verifyBits_jv3 (hk : u.cur.kind = .jv3) (hp : u.cur.phys < 255) :
    (∀ i e, u.cur.jv3.Finds u.cur.phys u.fdc.side (fun _ => True) i e →
      u.verifyBits = if e.flags.getLsbD 3 then 0x08 else 0x00) ∧
    ((∀ i e, ¬u.cur.jv3.Finds u.cur.phys u.fdc.side (fun _ => True) i e) →
      u.verifyBits = 0x10) := by
  have any : (fun _ => True) = SectorId.Wanted none u.fdc.density :=
    funext fun e => (eq_true fun n h => nomatch h).symm
  have req : (none : Option Bool) ≠ some !u.fdc.side := nofun
  rw [any, State.verifyBits, if_pos hk]
  refine ⟨fun i e h => ?_, fun h => ?_⟩
  · obtain ⟨rfl, found⟩ := (State.finds_iff_jv3Search req hp).1 h
    rw [found]
    rfl
  · rw [State.jv3Search_eq_none req hp h]

/-! ### Type I -/

/-- The status of a Type I command before its verify (R593). -/
def typeIStatus (c : Byte) (p : Nat) : Byte :=
  0x01 ||| (if c.getLsbD 3 then 0x20 else 0x00) ||| (if p = 0 then 0x04 else 0x00)

/-- The bits a Type I command adds by its verify when bit 2 asks for one. -/
def State.typeIVerify (u : State) (c : Byte) : Byte := if c.getLsbD 2 then u.verifyBits else 0x00

@[simp] theorem State.headAt_cur : (u.headAt p track dir).cur = { u.cur with phys := p } :=
  Vector.getElem_set_self _

theorem State.typeI_eq (h : u.typeIMove c = u.headAt p track dir) :
    u.typeI c =
      ((u.headAt p track dir).setStatus
        (typeIStatus c p ||| (u.headAt p track dir).typeIVerify c)).schedule kindDiskDone 2000
          (.diskDone 0x01) := by
  rw [State.typeI, h]
  simp only [State.headAt_cur]
  rw [State.typeIVerify]
  cases c.getLsbD 2 with
  | false =>
    have same (v : Byte) : v ||| 0x00 = v := BitVec.or_zero
    rw [if_neg Bool.false_ne_true, if_neg Bool.false_ne_true, same]
    rfl
  | true =>
    rw [if_pos rfl, if_pos rfl, State.verify_eq]
    rfl

/-- The disk events are gone and one entry is there (R561, R592). -/
theorem mem_started_events {x e : Event} :
    e ∈ insertEvent x (s.started c).events ↔ (e ∈ s.events ∧ e.kind &&& 0x07 = 0) ∨ e = x := by
  rw [mem_insertEvent, or_comm]
  refine or_congr_left ?_
  rw [← beq_iff_eq (a := e.kind &&& 0x07)]
  exact List.mem_filter

/-! ### Type IV -/

theorem State.forceInterrupt_eq :
    (s.commanded c).forceInterrupt c =
      { s with
        fdc := { s.fdc with command := c, status := 0, byteCount := 0 }
        events := s.events.filter (fun e => e.kind &&& 0x07 == 0)
        lat := if c.getLsbD 3 then (s.lat.withNmi (s.lat.nmiLatch &&& 0x7F)).withNmi
            (s.lat.nmiLatch &&& 0x7F ||| 0x80)
          else s.lat.withNmi (s.lat.nmiLatch &&& 0x7F) } := by
  rw [State.forceInterrupt, raiseNmi_withNmi, clearNmi_withNmi]
  cases c.getLsbD 3 with
  | true => rfl
  | false =>
    have same : (s.lat.withNmi (s.lat.nmiLatch &&& 0x7F)).withNmi
        (s.lat.nmiLatch &&& 0x7F &&& ~~~0x80) = s.lat.withNmi (s.lat.nmiLatch &&& 0x7F) := by
      rw [Latches.withNmi_and, BitVec.and_assoc]
      rfl
    rw [if_neg Bool.false_ne_true, if_neg Bool.false_ne_true, ← same]
    rfl

/-- Settles O56: by the range of the command byte. -/
theorem diskCommands : Obligations.DiskCommands := by
  intro s c cur
  refine ⟨fun h => ?typeI, fun h1 h2 => ?force, fun h => State.fdcCommand_refused h⟩
  case typeI =>
    obtain ⟨p, track, dir, ⟨onDisk, restore, seek, step⟩, moved⟩ := typeIMoved (s.started c) h
    refine ⟨_, (State.fdcCommand_typeI h).trans (congrArg _ (State.typeI_eq moved)), ?_⟩
    have cur' : ((s.started c).headAt p track dir).cur = { cur with phys := p } := State.headAt_cur
    intro head
    have hp : head = p := congrArg Drive.phys cur'
    clear_value head
    subst hp
    refine ⟨rfl, fun e => mem_started_events, restore, fun h1 h2 => ?seek, fun h1 => ?step,
      ((s.started c).headAt head track dir).typeIVerify c, rfl, fun h2 => ?quiet,
      fun h2 hk => ?plain, fun h2 hk => ?jv3⟩
    case seek =>
      obtain ⟨rfl, ht, hd⟩ := seek h1 h2
      exact ⟨clampTrack_cast _, ht, hd⟩
    case step =>
      obtain ⟨rfl, ht, hd⟩ := step h1
      refine ⟨hd, clampTrack_step _ _, ht.trans ?_⟩
      exact congrArg (ite (c.getLsbD 4 = false) s.fdc.track) (track_step _ _)
    case quiet => exact if_neg (Bool.eq_false_iff.1 h2)
    case plain =>
      rw [State.typeIVerify, if_pos h2, State.verifyBits, cur', if_neg hk]
      rfl
    case jv3 =>
      have bits := State.verifyBits_jv3 (u := (s.started c).headAt head track dir)
      rw [cur'] at bits
      rw [State.typeIVerify, if_pos h2]
      exact bits hk onDisk
  case force => exact ⟨_, State.fdcCommand_forceInterrupt h1 h2, State.forceInterrupt_eq⟩

end Sys2Proof.Machine
end

section
/-! Read sector: which sector is found and what is set up (O57, first half). -/

namespace Sys2Proof.Machine

variable {s u t : State} {c : Byte} {i : Nat}

/-! ### The two outcomes (R598) -/

/-- The side a read command asks for, if it does. -/
def reqSide (c : Byte) : Option Bool := if c.getLsbD 1 then some (c.getLsbD 3) else none

/-- The search of a read command. -/
def State.readSearch (u : State) (c : Byte) : Option Nat :=
  u.searchSector (some u.fdc.sector.toNat) (reqSide c)

/-- The status does not matter to the search. -/
theorem State.readSearch_setStatus (u : State) (v : Byte) :
    (u.setStatus v).readSearch c = u.readSearch c := rfl

/-- A read from `s` to `t` found a sector and set these up. -/
def SectorFound (s : State) (c : Byte) (t : State) (status : Byte) (size offset : Nat) : Prop :=
  t.fdc = { s.fdc with
    command := c, status := status, byteCount := size, dataOffset := offset } ∧
  ∀ e, e ∈ t.events ↔ (e ∈ s.events ∧ e.kind &&& 0x07 = 0) ∨
    e = ⟨0x04, s.clock + 64, s.seqNo, .firstDrq⟩

/-- A read from `s` to `t` found none. -/
def SectorMissing (s : State) (c : Byte) (t : State) : Prop :=
  t.fdc = { s.fdc with command := c, status := 0x10 } ∧
  ∀ e, e ∈ t.events ↔ (e ∈ s.events ∧ e.kind &&& 0x07 = 0) ∨
    e = ⟨0x01, s.clock + 512, s.seqNo, .diskDone 0x00⟩

theorem readSector_missing (h : u.readSearch c = none) :
    u.readSector c = (u.setStatus 0x10).schedule kindDiskDone 512 (.diskDone 0x00) := by
  rw [← u.readSearch_setStatus 0x00] at h
  have h' : (u.setStatus 0x00).searchSector (some (u.setStatus 0x00).fdc.sector.toNat)
    (if c.getLsbD 1 then some (c.getLsbD 3) else none) = none := h
  have bits : (0x00 ||| stNotFound : Byte) = 0x10 := by decide
  simp only [State.readSector, h']
  exact congrArg (fun v => (u.setStatus v).schedule kindDiskDone 512 (.diskDone 0x00)) bits

theorem readSector_found (h : u.readSearch c = some i) :
    u.readSector c =
      ({ u with
        fdc := { u.fdc with
          status := u.cur.foundStatus i
          byteCount := u.cur.sectorSize i
          dataOffset := u.cur.sectorOffset i } } : State).schedule kindDiskFirstDrq 64 .firstDrq := by
  rw [← u.readSearch_setStatus 0x00] at h
  have h' : (u.setStatus 0x00).searchSector (some (u.setStatus 0x00).fdc.sector.toNat)
    (if c.getLsbD 1 then some (c.getLsbD 3) else none) = some i := h
  simp only [State.readSector, h']
  rfl

/-- A read command by the result of its search. -/
theorem readSector_cases (s : State) (h1 : 0x80 ≤ c.toNat) (h2 : c.toNat < 0xA0) :
    ∃ t, s.fdcCommand c = .ok t ∧
      t = { s with
        lat := s.lat.withNmi (s.lat.nmiLatch &&& 0x7F), fdc := t.fdc, events := t.events
        seqNo := s.seqNo + 1 } ∧
      (s.readSearch c = none → SectorMissing s c t) ∧
      (∀ i, s.readSearch c = some i →
        SectorFound s c t (s.cur.foundStatus i) (s.cur.sectorSize i) (s.cur.sectorOffset i)) := by
  have run := State.fdcCommand_readSector (s := s) h1 h2
  have search : (s.started c).readSearch c = s.readSearch c := rfl
  cases h : s.readSearch c with
  | none =>
    refine ⟨_, run.trans (congrArg _ (readSector_missing (search.trans h))), rfl,
      fun _ => ⟨rfl, fun e => mem_started_events⟩, nofun⟩
  | some i =>
    refine ⟨_, run.trans (congrArg _ (readSector_found (search.trans h))), rfl, nofun,
      fun j hj => ?_⟩
    cases hj
    exact ⟨rfl, fun e => mem_started_events⟩

/-! ### The searches (R610 to R612) -/

theorem reqSide_eq_true : reqSide c = some true ↔ c.getLsbD 1 = true ∧ c.getLsbD 3 = true := by
  rw [reqSide]
  cases c.getLsbD 1 <;> simp

theorem reqSide_allowed {side : Bool} :
    reqSide c ≠ some (!side) ↔ (c.getLsbD 1 = true → c.getLsbD 3 = side) := by
  rw [reqSide]
  cases c.getLsbD 1 <;> cases c.getLsbD 3 <;> cases side <;> decide

theorem readSearch_none (h : s.cur.kind = .none) : s.readSearch c = none := by
  rw [State.readSearch, State.searchSector, h]

theorem readSearch_jv1 (h : s.cur.kind = .jv1) :
    s.readSearch c =
      if s.fdc.side = false ∧ ¬(c.getLsbD 1 = true ∧ c.getLsbD 3 = true) ∧
          s.cur.phys = s.fdc.track.toNat ∧ s.fdc.track.toNat < 35 ∧ s.fdc.sector.toNat < 10
        then some (10 * s.fdc.track.toNat + s.fdc.sector.toNat) else none := by
  rw [State.readSearch, State.searchSector, h]
  simp only [State.jv1Search, Option.getD_some, ← reqSide_eq_true]
  grind

theorem readSearch_jv3 (h : s.cur.kind = .jv3) :
    s.readSearch c = s.jv3Search (some s.fdc.sector.toNat) (reqSide c) := by
  rw [State.readSearch, State.searchSector, h]

/-- No sector is found when another side is asked for or the head is past the tracks (R612). -/
theorem jv3Search_refused {sector : Option Nat}
    (h : ¬((c.getLsbD 1 = true → c.getLsbD 3 = s.fdc.side) ∧ s.cur.phys < 255)) :
    s.jv3Search sector (reqSide c) = none := by
  rw [State.jv3Search]
  by_cases hr : reqSide c = some !s.fdc.side
  · rw [if_pos hr]
  · have head : Config.maxTracks ≤ s.cur.phys :=
      Nat.not_lt.1 fun hp => h ⟨reqSide_allowed.1 hr, hp⟩
    rw [if_neg hr, if_pos head]

/-- What a read looks for on a JV3 drive. -/
theorem wanted_sector (s : State) :
    SectorId.Wanted (some s.fdc.sector.toNat) s.fdc.density =
      fun e => e.sector = s.fdc.sector ∧ e.flags.getLsbD 7 = s.fdc.density := by
  refine funext fun e => propext ⟨fun h => ?_, fun ⟨hn, hd⟩ n h => ?_⟩
  · obtain ⟨hn, hd⟩ := h _ rfl
    exact ⟨BitVec.eq_of_toNat_eq hn, hd⟩
  · cases h
    exact ⟨congrArg BitVec.toNat hn, hd⟩

/-! ### The flags of a descriptor (R621, R622) -/

theorem SectorId.deleted_iff (e : SectorId) :
    e.deleted = true ↔ e.flags.getLsbD 5 ∧ e.flags.getLsbD 6 ≠ e.flags.getLsbD 7 := by
  rw [SectorId.deleted, SectorId.density]
  generalize e.flags = v
  revert v
  decide

theorem SectorId.size_used {e : SectorId} (h : e.free = false) :
    e.size = if e.flags.getLsbD 1 then (if e.flags.getLsbD 0 then 512 else 1024)
      else (if e.flags.getLsbD 0 then 128 else 256) := by
  rw [SectorId.size, SectorId.sizeCode, h]
  generalize e.flags = v
  revert v
  decide

theorem SectorId.size_free {e : SectorId} (h : e.free = true) :
    e.size = if e.flags.getLsbD 1 then (if e.flags.getLsbD 0 then 256 else 128)
      else (if e.flags.getLsbD 0 then 1024 else 512) := by
  rw [SectorId.size, SectorId.sizeCode, h]
  generalize e.flags = v
  revert v
  decide

theorem SectorId.not_free {e : SectorId} (h : e.track.toNat < 255) : e.free = false := by
  refine beq_eq_false_iff_ne.2 fun free => ?_
  rw [free] at h
  exact absurd h (by decide)

theorem foundStatus_jv3 {dr : Drive} (h : dr.kind = .jv3) (i : Nat) :
    let e := dr.jv3.id i
    dr.foundStatus i =
      0x01 ||| (if e.flags.getLsbD 3 then 0x08 else 0x00) |||
        (if e.flags.getLsbD 5 ∧ e.flags.getLsbD 6 ≠ e.flags.getLsbD 7 then 0x20 else 0x00) := by
  intro e
  rw [Drive.foundStatus, h]
  simp only [← SectorId.deleted_iff]
  rfl

/-! ### A read by the kind of its drive -/

/-- A read from a JV1 drive (R598, R611). -/
theorem sector_jv1 (hk : s.cur.kind = .jv1) (missing : s.readSearch c = none → SectorMissing s c t)
    (found : ∀ i, s.readSearch c = some i →
      SectorFound s c t (s.cur.foundStatus i) (s.cur.sectorSize i) (s.cur.sectorOffset i)) :
    if s.fdc.side = false ∧ ¬(c.getLsbD 1 = true ∧ c.getLsbD 3 = true) ∧
        s.cur.phys = s.fdc.track.toNat ∧ s.fdc.track.toNat < 35 ∧ s.fdc.sector.toNat < 10
      then SectorFound s c t 0x01 256 (256 * (10 * s.fdc.track.toNat + s.fdc.sector.toNat))
      else SectorMissing s c t := by
  have search := readSearch_jv1 (c := c) hk
  split
  · rename_i h
    rw [if_pos h] at search
    have set := found _ search
    simp only [Drive.foundStatus, Drive.sectorSize, Drive.sectorOffset, hk] at set
    exact set
  · rename_i h
    rw [if_neg h] at search
    exact missing search

/-- A read from a JV3 drive (R598, R612). -/
theorem sector_jv3 (hk : s.cur.kind = .jv3) (missing : s.readSearch c = none → SectorMissing s c t)
    (found : ∀ i, s.readSearch c = some i →
      SectorFound s c t (s.cur.foundStatus i) (s.cur.sectorSize i) (s.cur.sectorOffset i)) :
    let allowed := (c.getLsbD 1 = true → c.getLsbD 3 = s.fdc.side) ∧ s.cur.phys < 255
    let finds := s.cur.jv3.Finds s.cur.phys s.fdc.side fun e =>
      e.sector = s.fdc.sector ∧ e.flags.getLsbD 7 = s.fdc.density
    (∀ i e, allowed → finds i e →
      SectorFound s c t
        (0x01 ||| (if e.flags.getLsbD 3 then 0x08 else 0x00) |||
          (if e.flags.getLsbD 5 ∧ e.flags.getLsbD 6 ≠ e.flags.getLsbD 7 then 0x20 else 0x00))
        (if e.flags.getLsbD 1 then (if e.flags.getLsbD 0 then 512 else 1024)
          else (if e.flags.getLsbD 0 then 128 else 256))
        (s.cur.jv3.offset.getD i 0)) ∧
    (¬allowed ∨ (∀ i e, ¬finds i e) → SectorMissing s c t) := by
  intro allowed finds
  have search := readSearch_jv3 (c := c) hk
  refine ⟨fun i e hallowed hfinds => ?found, fun h => missing (search.trans ?_)⟩
  case found =>
    have onTrack : e.track.toNat = s.cur.phys := by
      obtain ⟨-, -, -, -, -, -, -, ht, -⟩ := hfinds
      exact ht
    obtain ⟨req, hp⟩ := hallowed
    simp only [finds, ← wanted_sector s] at hfinds
    obtain ⟨rfl, hit⟩ := (State.finds_iff_jv3Search (reqSide_allowed.2 req) hp).1 hfinds
    have used : (s.cur.jv3.id i).free = false := SectorId.not_free (onTrack ▸ hp)
    have set := found i (search.trans hit)
    rw [foundStatus_jv3 hk] at set
    simp only [Drive.sectorSize, Drive.sectorOffset, hk, SectorId.size_used used] at set
    exact set
  by_cases hallowed : allowed
  · obtain ⟨req, hp⟩ := hallowed
    have none := h.resolve_left (not_not.2 ⟨req, hp⟩)
    simp only [finds, ← wanted_sector s] at none
    exact State.jv3Search_eq_none (reqSide_allowed.2 req) hp none
  · exact jv3Search_refused hallowed

end Sys2Proof.Machine
end

section
/-! The tables a JV3 load builds (R620, R622, R623), and with them read sector (O57). -/

namespace Sys2Proof.Machine

/-! ### The scan of the descriptor blocks (R623) -/

/-- The descriptors of the used slots among the `m` of the block at `base`. -/
def usedSlots (img : List Byte) (base m : Nat) : List SectorId :=
  ((List.range m).map fun k => slotAt img (base + 3 * k)).filter fun e => decide (e ≠ .sentinel)

/-- How many bytes the sectors of `l` take. -/
def bytesOf (l : List SectorId) : Nat := (l.map SectorId.size).sum

/-- The descriptors `l` with the offsets of their sectors, which stand one after the other
from `o`. -/
def withOffsets (o : Nat) : List SectorId → List (SectorId × Nat)
  | [] => []
  | e :: l => (e, o) :: withOffsets (o + e.size) l

variable {o o' i : Nat} {l l' : List SectorId}

@[simp] theorem withOffsets_fst (o : Nat) (l : List SectorId) :
    (withOffsets o l).map Prod.fst = l := by
  induction l generalizing o with
  | nil => rfl
  | cons e l ih => simp [withOffsets, ih]

@[simp] theorem withOffsets_length (o : Nat) (l : List SectorId) :
    (withOffsets o l).length = l.length := by
  rw [← List.length_map Prod.fst, withOffsets_fst]

theorem bytesOf_append (l l' : List SectorId) : bytesOf (l ++ l') = bytesOf l + bytesOf l' := by
  simp [bytesOf]

/-- The slots of a block in order. -/
theorem foldl_jv3Slot (slots : List SectorId) (acc : Jv3Scan) :
    slots.foldl (fun acc e => jv3Slot e acc) acc =
      (acc.1 ++ withOffsets acc.2 (slots.filter fun e => decide (e ≠ .sentinel)),
        acc.2 + bytesOf (slots.filter fun e => decide (e ≠ .sentinel))) := by
  induction slots generalizing acc with
  | nil => simp [withOffsets, bytesOf]
  | cons e slots ih =>
    rw [List.foldl_cons, ih]
    by_cases unused : e = .sentinel
    · simp [jv3Slot, unused]
    · simp [jv3Slot, unused, withOffsets, bytesOf, Nat.add_assoc]

theorem jv3Block_eq (img : List Byte) (base m : Nat) (found : List (SectorId × Nat)) :
    jv3Block img base m found =
      (found ++ withOffsets (base + 8704) (usedSlots img base m),
        base + 8704 + bytesOf (usedSlots img base m)) := by
  rw [jv3Block, ← List.foldl_map (f := fun k => slotAt img (base + 3 * k))
    (g := fun acc e => jv3Slot e acc), foldl_jv3Slot]
  rfl

/-- The end of the first block's sectors. -/
def firstEnd (img : List Byte) (m : Nat) : Nat := 8704 + bytesOf (usedSlots img 0 m)

/-- The descriptors of the second block, if there is one. -/
def secondSlots (img : List Byte) (m : Nat) : List SectorId :=
  if img.length ≤ firstEnd img m then [] else usedSlots img (firstEnd img m) m

/-- The bytes of the second block's descriptors, if there is one. -/
def secondBlock (img : List Byte) (m : Nat) : Nat :=
  if img.length ≤ firstEnd img m then 0 else 8704

theorem jv3Blocks_eq (img : List Byte) (m : Nat) :
    jv3Blocks img m =
      (withOffsets 8704 (usedSlots img 0 m) ++
          withOffsets (firstEnd img m + secondBlock img m) (secondSlots img m),
        firstEnd img m + secondBlock img m + bytesOf (secondSlots img m)) := by
  rw [jv3Blocks]
  simp only [jv3Block_eq, Nat.zero_add, List.nil_append]
  change (if img.length ≤ firstEnd img m then _ else _) = _
  by_cases one : img.length ≤ firstEnd img m
  · simp only [secondSlots, secondBlock, if_pos one, withOffsets, List.append_nil]
    rfl
  · simp only [secondSlots, secondBlock, if_neg one]
    rfl

/-! ### Offsets -/

/-- The offsets of the sectors of `l` from `o`, and of what comes after them. -/
theorem getElem?_offsets (o : Nat) (l : List SectorId) (h : i ≤ l.length) :
    ((withOffsets o l).map Prod.snd ++ [o + bytesOf l])[i]? = some (o + bytesOf (l.take i)) := by
  induction l generalizing o i with
  | nil =>
    obtain rfl : i = 0 := Nat.le_zero.1 h
    rfl
  | cons e l ih =>
    cases i with
    | zero => rfl
    | succ i =>
      have next := ih (o + e.size) (Nat.le_of_succ_le_succ h)
      simpa [withOffsets, bytesOf, Nat.add_assoc] using next

/-- The offsets of two runs of sectors with a gap `g` between them. -/
theorem getElem?_offsets_append (o g : Nat) (l l' : List SectorId) (h : i ≤ (l ++ l').length) :
    ((withOffsets o l ++ withOffsets (o + bytesOf l + g) l').map Prod.snd ++
        [o + bytesOf l + g + bytesOf l'])[i]? =
      some (o + bytesOf ((l ++ l').take i) + if l.length ≤ i then g else 0) := by
  rw [List.map_append, List.append_assoc]
  by_cases first : i < l.length
  · have inFirst := getElem?_offsets o l first.le
    rw [List.getElem?_append_left (by simpa using first)] at inFirst ⊢
    rw [inFirst, List.take_append_of_le_length first.le, if_neg (Nat.not_le.2 first), Nat.add_zero]
  · have past : l.length ≤ i := Nat.not_lt.1 first
    rw [List.getElem?_append_right (by simpa using past), List.length_map, withOffsets_length,
      getElem?_offsets _ _ (by rw [List.length_append] at h; omega), List.take_append,
      List.take_of_length_le past, bytesOf_append, if_pos past]
    congr 1
    omega

/-! ### The sorted index (R620) -/

/-- Side as a number: the order of descriptors is that of track, side and index. -/
theorem SectorId.sorts_iff {x y : SectorId} {i j : Nat} :
    x.Sorts i y j ↔ x.track.toNat < y.track.toNat ∨ x.track.toNat = y.track.toNat ∧
      (x.side.toNat < y.side.toNat ∨ x.side.toNat = y.side.toNat ∧ i < j) := by
  rw [SectorId.Sorts, ← BitVec.toNat_inj]
  change _ ∨ _ ∧ (x.side = false ∧ y.side = true ∨ x.side = y.side ∧ i < j) ↔ _
  cases x.side <;> cases y.side <;> simp

theorem jv3Before_iff {ids : List SectorId} {i j : Nat} :
    jv3Before ids i j = true ↔ (ids.getD i .sentinel).Sorts i (ids.getD j .sentinel) j := by
  rw [SectorId.sorts_iff, jv3Before]
  generalize ids.getD i .sentinel = x
  generalize ids.getD j .sentinel = y
  rw [BitVec.toNat_inj]
  cases x.side <;> cases y.side <;> simp

theorem jv3Before_total {ids : List SectorId} {i j : Nat} (h : i ≠ j) :
    jv3Before ids i j = true ∨ jv3Before ids j i = true := by
  simp only [jv3Before_iff, SectorId.sorts_iff]
  omega

theorem jv3Before_trans {ids : List SectorId} {i j k : Nat} (h1 : jv3Before ids i j = true)
    (h2 : jv3Before ids j k = true) : jv3Before ids i k = true := by
  simp only [jv3Before_iff, SectorId.sorts_iff] at h1 h2 ⊢
  omega

section Sorting

variable {before : Nat → Nat → Bool}

theorem insertBy_perm (before : Nat → Nat → Bool) (i : Nat) (l : List Nat) :
    (insertBy before i l).Perm (i :: l) := by
  induction l with
  | nil => rfl
  | cons j l ih =>
    rw [insertBy]
    split
    · rfl
    · exact (ih.cons j).trans (.swap i j l)

theorem sortBy_perm (before : Nat → Nat → Bool) (l : List Nat) : (sortBy before l).Perm l := by
  induction l with
  | nil => rfl
  | cons i l ih => exact (insertBy_perm before i _).trans (ih.cons i)

variable (total : ∀ i j, i ≠ j → before i j = true ∨ before j i = true)
  (trans : ∀ i j k, before i j = true → before j k = true → before i k = true)

include total trans

theorem insertBy_pairwise {i : Nat} {l : List Nat} (hi : i ∉ l)
    (h : l.Pairwise fun i j => before i j = true) :
    (insertBy before i l).Pairwise fun i j => before i j = true := by
  induction l with
  | nil => exact List.pairwise_singleton _ _
  | cons j l ih =>
    obtain ⟨first, rest⟩ := List.pairwise_cons.1 h
    obtain ⟨hij, hil⟩ := not_or.1 (mt List.mem_cons.2 hi)
    rw [insertBy]
    split
    · rename_i hb
      exact .cons (List.forall_mem_cons.2 ⟨hb, fun k hk => trans i j k hb (first k hk)⟩) h
    · rename_i hb
      refine .cons (fun k hk => ?_) (ih hil rest)
      rcases List.mem_cons.1 ((insertBy_perm before i l).mem_iff.1 hk) with rfl | hk
      · exact (total _ _ hij).resolve_left hb
      · exact first k hk

theorem sortBy_pairwise {l : List Nat} (h : l.Nodup) :
    (sortBy before l).Pairwise fun i j => before i j = true := by
  induction l with
  | nil => exact .nil
  | cons i l ih =>
    obtain ⟨hi, hl⟩ := List.nodup_cons.1 h
    exact insertBy_pairwise total trans (mt (sortBy_perm before l).mem_iff.1 hi) (ih hl)

end Sorting

/-! ### First entries (R620) -/

section FirstEntry

variable {t : Jv3Tables} {p : Nat → Bool} {P : Nat → SectorId → Prop}

/-- A sorted index names a descriptor. -/
theorem entry_id (hlt : ∀ i ∈ t.sortedId, i < t.ids.length) {n i : Nat}
    (hn : t.sortedId[n]? = some i) : t.Entry n i (t.id i) := by
  have there := List.getElem?_eq_getElem (hlt i (List.mem_of_getElem? hn))
  exact ⟨hn, there.trans (congrArg some (Jv3Tables.id_of_getElem? there).symm)⟩

/-- No entry meets `P`. -/
theorem findIdx?_entry_none (hlt : ∀ i ∈ t.sortedId, i < t.ids.length)
    (hp : ∀ i, p i = true ↔ P i (t.id i)) :
    t.sortedId.findIdx? p = none ↔ ∀ n i e, t.Entry n i e → ¬P i e := by
  rw [List.findIdx?_eq_none_iff]
  constructor
  · rintro h n i e ⟨hn, he⟩
    rw [← Jv3Tables.id_of_getElem? he, ← hp, h i (List.mem_of_getElem? hn)]
    exact Bool.false_ne_true
  · intro h i hi
    obtain ⟨n, hn⟩ := List.mem_iff_getElem?.1 hi
    exact Bool.eq_false_iff.2 (mt (hp i).1 (h n i _ (entry_id hlt hn)))

/-- The first entry that meets `P`. -/
theorem findIdx?_entry_some (hlt : ∀ i ∈ t.sortedId, i < t.ids.length)
    (hp : ∀ i, p i = true ↔ P i (t.id i)) {n : Nat} :
    t.sortedId.findIdx? p = some n ↔
      (∃ i e, t.Entry n i e ∧ P i e) ∧ ∀ m i e, t.Entry m i e → P i e → n ≤ m := by
  rw [List.findIdx?_eq_some_iff_getElem]
  constructor
  · rintro ⟨hn, hit, before⟩
    refine ⟨⟨_, _, entry_id hlt (List.getElem?_eq_getElem hn), (hp _).1 hit⟩, ?_⟩
    rintro m i e ⟨hm, he⟩ hP
    by_contra earlier
    obtain ⟨hlen, rfl⟩ := List.getElem?_eq_some_iff.1 hm
    rw [← Jv3Tables.id_of_getElem? he, ← hp] at hP
    exact before m (Nat.not_le.1 earlier) hP
  · rintro ⟨⟨i, e, ⟨hn, he⟩, hP⟩, least⟩
    obtain ⟨hlen, rfl⟩ := List.getElem?_eq_some_iff.1 hn
    rw [← Jv3Tables.id_of_getElem? he, ← hp] at hP
    refine ⟨hlen, hP, fun m hm hit => ?_⟩
    have hm' : m < t.sortedId.length := hm.trans hlen
    have := least m _ _ (entry_id hlt (List.getElem?_eq_getElem hm')) ((hp _).1 hit)
    omega

end FirstEntry

/-! ### The tables of a scan (R620) -/

section Tables

variable (scan : Jv3Scan)

theorem jv3Tables_length : (jv3Tables scan).ids.length = scan.1.length + 1 := by
  simp [jv3Tables]

theorem jv3Tables_perm :
    (jv3Tables scan).sortedId.Perm (List.range (scan.1.length + 1)) :=
  sortBy_perm _ _

theorem jv3Tables_index (i : Nat) (h : i ∈ (jv3Tables scan).sortedId) :
    i < (jv3Tables scan).ids.length := by
  rw [jv3Tables_length]
  exact List.mem_range.1 ((jv3Tables_perm scan).mem_iff.1 h)

theorem jv3Tables_sorted :
    (jv3Tables scan).sortedId.Pairwise fun i j => ∀ x y, (jv3Tables scan).ids[i]? = some x →
      (jv3Tables scan).ids[j]? = some y → x.Sorts i y j := by
  refine (sortBy_pairwise (fun _ _ => jv3Before_total) (fun _ _ _ => jv3Before_trans)
    List.nodup_range).imp fun h x y hx hy => ?_
  have sorts := jv3Before_iff.1 h
  change ((jv3Tables scan).id _).Sorts _ ((jv3Tables scan).id _) _ at sorts
  rwa [Jv3Tables.id_of_getElem? hx, Jv3Tables.id_of_getElem? hy] at sorts

/-- The index of the first entry on a track and side. -/
def Jv3Tables.firstOn (t : Jv3Tables) (p : Nat) (side : Bool) : Option Nat :=
  t.sortedId.findIdx? fun i => (t.id i).track.toNat == p && (t.id i).side == side

/-- The index of the first free entry of a size code before `n`. -/
def Jv3Tables.firstFree (t : Jv3Tables) (n code : Nat) : Option Nat :=
  t.sortedId.findIdx? fun i => (t.id i).free && decide (i < n) && (t.id i).sizeCode == code

theorem jv3Tables_startOf (p : Nat) (side : Bool) :
    (jv3Tables scan).startOf p side =
      if p < 255 then (jv3Tables scan).firstOn p side else none := by
  have starts : (jv3Tables scan).trackStart[p]? =
      ((List.range 255)[p]?).map fun p =>
        ((jv3Tables scan).firstOn p false, (jv3Tables scan).firstOn p true) := List.getElem?_map
  rw [Jv3Tables.startOf, starts]
  by_cases h : p < 255
  · rw [List.getElem?_range h, if_pos h]
    cases side <;> rfl
  · rw [List.getElem?_eq_none (by simpa using h), if_neg h]
    rfl

theorem jv3Tables_freeHead (code n : Nat) :
    (jv3Tables scan).freeHead[code]? = some (some n) ↔
      code < 4 ∧ (jv3Tables scan).firstFree scan.1.length code = some n := by
  have heads : (jv3Tables scan).freeHead[code]? =
      ((List.range 4)[code]?).map ((jv3Tables scan).firstFree scan.1.length) := List.getElem?_map
  rw [heads]
  by_cases h : code < 4
  · simp [h]
  · simp [h]

theorem jv3Tables_start_none (p : Nat) (side : Bool) :
    (jv3Tables scan).startOf p side = none ↔
      (255 ≤ p ∨ ∀ n i e, (jv3Tables scan).Entry n i e →
        ¬(e.track.toNat = p ∧ e.flags.getLsbD 4 = side)) := by
  rw [jv3Tables_startOf, Jv3Tables.firstOn]
  by_cases h : p < 255
  · rw [if_pos h, or_iff_right (Nat.not_le.2 h), findIdx?_entry_none (jv3Tables_index scan)
      (P := fun _ e => e.track.toNat = p ∧ e.flags.getLsbD 4 = side)
      (fun i => by simp [SectorId.side])]
  · rw [if_neg h]
    exact iff_of_true rfl (.inl (Nat.not_lt.1 h))

theorem jv3Tables_start_some (p : Nat) (side : Bool) (n : Nat) :
    (jv3Tables scan).startOf p side = some n ↔ p < 255 ∧
      (∃ i e, (jv3Tables scan).Entry n i e ∧ e.track.toNat = p ∧ e.flags.getLsbD 4 = side) ∧
      ∀ m i e, (jv3Tables scan).Entry m i e → e.track.toNat = p → e.flags.getLsbD 4 = side →
        n ≤ m := by
  rw [jv3Tables_startOf, Jv3Tables.firstOn]
  by_cases h : p < 255
  · rw [if_pos h, findIdx?_entry_some (jv3Tables_index scan)
      (P := fun _ e => e.track.toNat = p ∧ e.flags.getLsbD 4 = side)
      (fun i => by simp [SectorId.side])]
    simp only [h, true_and, and_imp]
  · rw [if_neg h]
    exact iff_of_false nofun fun hp => h hp.1

theorem jv3Tables_free_some (code n : Nat) :
    (jv3Tables scan).freeHead[code]? = some (some n) ↔ code < 4 ∧
      (∃ i e, (jv3Tables scan).Entry n i e ∧ i < scan.1.length ∧ e.track = 0xFF ∧
        e.flags.toNat % 4 = code) ∧
      ∀ m i e, (jv3Tables scan).Entry m i e → i < scan.1.length → e.track = 0xFF →
        e.flags.toNat % 4 = code → n ≤ m := by
  have sizeCode (e : SectorId) : e.sizeCode = e.flags.toNat % 4 := by
    rw [SectorId.sizeCode, BitVec.extractLsb'_toNat]
    rfl
  rw [jv3Tables_freeHead, Jv3Tables.firstFree, findIdx?_entry_some (jv3Tables_index scan)
    (P := fun i e => i < scan.1.length ∧ e.track = 0xFF ∧ e.flags.toNat % 4 = code) (fun i => ?_)]
  · simp only [and_imp]
  · simp [SectorId.free, sizeCode, and_comm, and_assoc]

end Tables

/-! ### The load (R622, R623) -/

theorem SectorId.size_eq (e : SectorId) :
    e.size =
      if e.track = 0xFF then
        (if e.flags.getLsbD 1 then (if e.flags.getLsbD 0 then 256 else 128)
          else (if e.flags.getLsbD 0 then 1024 else 512))
      else (if e.flags.getLsbD 1 then (if e.flags.getLsbD 0 then 512 else 1024)
        else (if e.flags.getLsbD 0 then 128 else 256)) := by
  by_cases h : e.track = 0xFF
  · rw [if_pos h, SectorId.size_free (beq_iff_eq.2 h)]
  · rw [if_neg h, SectorId.size_used (beq_eq_false_iff_ne.2 h)]

/-- The descriptors of a scan. -/
theorem jv3Blocks_fst (img : List Byte) (m : Nat) :
    (jv3Blocks img m).1.map Prod.fst = usedSlots img 0 m ++ secondSlots img m := by
  rw [jv3Blocks_eq, List.map_append, withOffsets_fst, withOffsets_fst]

theorem jv3Blocks_length (img : List Byte) (m : Nat) :
    (jv3Blocks img m).1.length = (usedSlots img 0 m ++ secondSlots img m).length := by
  rw [← jv3Blocks_fst, List.length_map]

theorem jv3Blocks_ids (img : List Byte) (m : Nat) :
    (jv3Tables (jv3Blocks img m)).ids =
      (usedSlots img 0 m ++ secondSlots img m) ++ [.sentinel] := by
  rw [← jv3Blocks_fst]
  rfl

theorem jv3Blocks_offset_length (img : List Byte) (m : Nat) :
    (jv3Tables (jv3Blocks img m)).offset.length =
      (usedSlots img 0 m ++ secondSlots img m).length + 1 := by
  rw [← jv3Blocks_length]
  simp [jv3Tables]

/-- The offset of each descriptor, and of the sentinel: a second block stands before the sectors of
its own descriptors. -/
theorem jv3Blocks_offset (img : List Byte) (m i : Nat)
    (h : i ≤ (usedSlots img 0 m ++ secondSlots img m).length) :
    (jv3Tables (jv3Blocks img m)).offset[i]? =
      some (8704 + bytesOf ((usedSlots img 0 m ++ secondSlots img m).take i) +
        if firstEnd img m < img.length ∧ (usedSlots img 0 m).length ≤ i then 8704 else 0) := by
  have offset : (jv3Tables (jv3Blocks img m)).offset = _ :=
    congrArg (fun scan : Jv3Scan => scan.1.map Prod.snd ++ [scan.2]) (jv3Blocks_eq img m)
  rw [offset]
  have gap : (if (usedSlots img 0 m).length ≤ i then secondBlock img m else 0) =
      if firstEnd img m < img.length ∧ (usedSlots img 0 m).length ≤ i then 8704 else 0 := by
    rw [secondBlock]
    split_ifs <;> omega
  rw [← gap]
  exact getElem?_offsets_append 8704 (secondBlock img m) _ _ h

/-- Settles O57: the read by the result of its search, and the load by the scan of its blocks. -/
theorem sectorRead : Obligations.SectorRead := by
  refine ⟨fun s c h1 h2 => ?read, fun img => ?tables⟩
  case read =>
    obtain ⟨t, run, frame, missing, found⟩ := readSector_cases s h1 h2
    exact ⟨t, run, frame, fun hk => missing (readSearch_none hk),
      fun hk => sector_jv1 hk missing found, fun hk => sector_jv3 hk missing found⟩
  case tables =>
    intro byte slots size first end1 used t
    have hslots : slots = fun base => usedSlots img base 2901 := rfl
    have hsize : size = SectorId.size := funext fun e => e.size_eq.symm
    have hend : end1 = firstEnd img 2901 := by simp only [end1, first, hslots, hsize]; rfl
    have hused : used = usedSlots img 0 2901 ++ secondSlots img 2901 := by
      simp only [used, hend]
      rfl
    have hlen : (jv3Blocks img 2901).1.length = used.length := by rw [jv3Blocks_length, hused]
    have ht : t = jv3Tables (jv3Blocks img 2901) := rfl
    have perm := jv3Tables_perm (jv3Blocks img 2901)
    have free := jv3Tables_free_some (jv3Blocks img 2901)
    clear_value size end1 used t
    rw [hlen] at perm free
    rw [hsize, hend, ht]
    rw [hused] at perm free ⊢
    exact ⟨jv3Blocks_ids img 2901, jv3Blocks_offset_length img 2901, jv3Blocks_offset img 2901, perm,
      jv3Tables_sorted _, jv3Tables_start_none _, jv3Tables_start_some _, free⟩

end Sys2Proof.Machine
end

section
/-! The clock law (O42): an operation leaves the clock, and the end of the instruction adds its
cycles. -/

namespace Sys2Proof.Machine

variable {s t u w : State} {i : Instr}

/-! ### The shared operations leave the clock -/

section Operations

variable (s : State)

@[simp] theorem State.alu_clock (op : AluOp) (v : Byte) : (s.alu op v).clock = s.clock := by
  cases op <;> rfl
@[simp] theorem State.aluAt_clock (op : AluOp) (a : Word) : (s.aluAt op a).clock = s.clock := by
  simp [State.aluAt]
@[simp] theorem State.loadReg_clock (r : Reg8) (a : Word) : (s.loadReg r a).clock = s.clock := by
  simp [State.loadReg]
@[simp] theorem State.loadPair_clock (p : Pair) (a : Word) : (s.loadPair p a).clock = s.clock := by
  simp [State.loadPair]
@[simp] theorem State.loadAFlags_clock (v : Byte) : (s.loadAFlags v).clock = s.clock := rfl
@[simp] theorem State.afterRefreshRead_clock : s.afterRefreshRead.clock = s.clock := by
  unfold State.afterRefreshRead
  split <;> rfl
@[simp] theorem State.incReg_clock (r : Reg8) : (s.incReg r).clock = s.clock := rfl
@[simp] theorem State.decReg_clock (r : Reg8) : (s.decReg r).clock = s.clock := rfl
@[simp] theorem State.incHalf_clock (x : Idx) (h : Half) : (s.incHalf x h).clock = s.clock := by
  simp [State.incHalf]
@[simp] theorem State.decHalf_clock (x : Idx) (h : Half) : (s.decHalf x h).clock = s.clock := by
  simp [State.decHalf]
@[simp] theorem State.incAt_clock (a : Word) : (s.incAt a).clock = s.clock := by
  simp [State.incAt]
@[simp] theorem State.decAt_clock (a : Word) : (s.decAt a).clock = s.clock := by
  simp [State.decAt]
@[simp] theorem State.negA_clock : s.negA.clock = s.clock := rfl
@[simp] theorem State.addIdx_clock (x : Idx) (p : IdxPair) : (s.addIdx x p).clock = s.clock := by
  simp [State.addIdx]
@[simp] theorem State.rotA_clock (op : RotOp) : (s.rotA op).clock = s.clock := rfl
@[simp] theorem State.rotReg_clock (op : RotOp) (r : Reg8) : (s.rotReg op r).clock = s.clock := rfl
@[simp] theorem State.rotAt_clock (op : RotOp) (a : Word) : (s.rotAt op a).clock = s.clock := by
  simp [State.rotAt]
@[simp] theorem State.rotAtCopy_clock (op : RotOp) (a : Word) (r : Reg8) :
    (s.rotAtCopy op a r).clock = s.clock := by
  simp [State.rotAtCopy]
@[simp] theorem State.rotDigits_clock (m a : Byte) : (s.rotDigits m a).clock = s.clock := by
  simp [State.rotDigits]
@[simp] theorem State.modifyAt_clock (a : Word) (f : Byte → Byte) :
    (s.modifyAt a f).clock = s.clock := by
  simp [State.modifyAt]
@[simp] theorem State.modifyAtCopy_clock (a : Word) (r : Reg8) (f : Byte → Byte) :
    (s.modifyAtCopy a r f).clock = s.clock := by
  simp [State.modifyAtCopy]
@[simp] theorem State.bitAtIdx_clock (b : Fin 8) (x : Idx) (d : Byte) :
    (s.bitAtIdx b x d).clock = s.clock := by
  simp [State.bitAtIdx]
@[simp] theorem State.jumpRel_clock (e : Byte) : (s.jumpRel e).clock = s.clock := rfl
@[simp] theorem State.call_clock (w : Word) : (s.call w).clock = s.clock := by
  simp [State.call]
@[simp] theorem State.popPC_clock : s.popPC.clock = s.clock := by
  simp [State.popPC]
@[simp] theorem State.ldBody_clock (w : Word) : (s.ldBody w).clock = s.clock := by
  simp [State.ldBody]
@[simp] theorem State.cpBody_clock (w : Word) : (s.cpBody w).clock = s.clock := by
  simp [State.cpBody]

end Operations

theorem State.inBody_clock {w : Word} {c : Byte} (h : s.inBody w c = .ok u) :
    u.clock = s.clock := by
  obtain ⟨⟨v, x⟩, hx, rfl⟩ := map_ok h
  have dev := ioRead_devices hx
  simp [dev.clock]

theorem State.outBody_clock {w : Word} (h : s.outBody w = .ok u) : u.clock = s.clock := by
  obtain ⟨x, hx, rfl⟩ := map_ok h
  have dev := ioWrite_devices hx
  simp [dev.clock]

/-! ### The shapes of an instruction -/

/-- The clock after an instruction: with its cycles, or with those and its taken extra (R730). -/
def Timed (i : Instr) (s t : State) : Prop :=
  t.clock = s.clock + i.cycles ∨ t.clock = s.clock + i.cycles + i.takenExtra

/-- An operation that leaves the clock, and the cycles. -/
theorem Timed.tick (h : u.clock = s.clock) : Timed i s (u.tick i.cycles) :=
  .inl (by rw [State.tick_clock, h])

/-- The same with the taken extra. -/
theorem Timed.tick_taken (h : u.clock = s.clock) :
    Timed i s (u.tick (i.cycles + i.takenExtra)) :=
  .inr (by rw [State.tick_clock, h, Nat.add_assoc])

/-- A form that does one thing or another. -/
theorem Timed.ite {p : Prop} [Decidable p] (hu : Timed i s u) (hw : Timed i s w) :
    Timed i s (if p then u else w) := by
  split
  · exact hu
  · exact hw

/-- A form that repeats while `again` (R265). -/
theorem Timed.repeatIf {again : Bool} (hc : i.cycles = 16) (hx : i.takenExtra = 5)
    (h : u.clock = s.clock) : Timed i s (u.repeatIf again) := by
  refine .ite ?again ?last
  case again =>
    have := Timed.tick_taken (i := i) (u := u.setPC (u.cpu.pc - 2)) h
    rwa [hc, hx] at this
  case last =>
    have := Timed.tick (i := i) h
    rwa [hc] at this

/-! ### The instructions -/

/-- An instruction without a port access. -/
theorem exec_plain_timed (s : State) (h : usesPort i = false) :
    ∃ t, exec i s = .next t ∧ Timed i s t := by
  cases i
  case jpCCNN => exact ⟨_, rfl, .ite (.tick rfl) (.tick rfl)⟩
  case jrJCCE => exact ⟨_, rfl, .ite (.tick_taken rfl) (.tick rfl)⟩
  case djnzE => exact ⟨_, rfl, .ite (.tick rfl) (.tick_taken rfl)⟩
  case callCCNN => exact ⟨_, rfl, .ite (.tick_taken (State.call_clock _ _)) (.tick rfl)⟩
  case retCC => exact ⟨_, rfl, .ite (.tick_taken (State.popPC_clock _)) (.tick rfl)⟩
  case ldir | lddr => exact ⟨_, rfl, .repeatIf rfl rfl (State.ldBody_clock _ _)⟩
  case cpir | cpdr => exact ⟨_, rfl, .repeatIf rfl rfl (State.cpBody_clock _ _)⟩
  case inAAtN | inRAtC | inFAtC | outAtNA | outAtCR | outAtC0 | ini | inir | ind | indr | outi |
      otir | outd | otdr => exact Bool.noConfusion h
  -- every other form is one operation and its cycles
  all_goals exact ⟨_, rfl, .tick (by simp)⟩

/-- An instruction that accesses a port and completes. -/
theorem exec_port_timed (h : usesPort i = true) (he : exec i s = .next t) : Timed i s t := by
  cases i
  case inAAtN | inRAtC | inFAtC =>
    obtain ⟨⟨v, u⟩, hu, rfl⟩ := map_ok (finish_next he)
    exact .tick (ioRead_devices hu).clock
  case outAtNA | outAtCR | outAtC0 =>
    obtain ⟨u, hu, rfl⟩ := map_ok (finish_next he)
    exact .tick (ioWrite_devices hu).clock
  case ini | ind =>
    obtain ⟨u, hu, rfl⟩ := map_ok (finish_next he)
    exact .tick (State.inBody_clock hu)
  case inir | indr =>
    obtain ⟨u, hu, rfl⟩ := map_ok (finish_next he)
    exact .repeatIf rfl rfl (State.inBody_clock hu)
  case outi | outd =>
    obtain ⟨u, hu, rfl⟩ := map_ok (finish_next he)
    exact .tick (State.outBody_clock hu)
  case otir | otdr =>
    obtain ⟨u, hu, rfl⟩ := map_ok (finish_next he)
    exact .repeatIf rfl rfl (State.outBody_clock hu)
  all_goals exact Bool.noConfusion h

/-- Settles O42: with and without a port access. -/
theorem clockLaw : Obligations.ClockLaw := by
  intro i s t he
  cases h : usesPort i with
  | false =>
    obtain ⟨u, hu, timed⟩ := exec_plain_timed s h
    cases hu.symm.trans he
    exact timed
  | true => exact exec_port_timed h he

end Sys2Proof.Machine
end
